-- ==== Sys2Proof/Word.lean ====
section
/-! DEFINITION. Words of the PS416: a character or management byte, a location or 16-bit count, a domain number. -/
namespace Sys2Proof

/-- One character of a frame, or one byte of the management space (R10, R161). -/
abbrev Byte := BitVec 8

/-- A 16-bit location or a 16-bit quantity (R10, Conventions). -/
abbrev Half := BitVec 16

/-- A power domain, 0 to 7 (R75). -/
abbrev DomainId := Fin 8

end Sys2Proof
end

