-- ==== Sys2Proof/Syntax.lean ====
section
/-! DEFINITION. The commands of the PS416: one constructor per row of spec/opcode_table.json, with its operands. -/
namespace Sys2Proof

/-- The level of a serial line: mark is high and idle, space is low (chapter 1). -/
inductive Level where
  | space
  | mark
  deriving DecidableEq, Repr

/-- The line a port listens to: URX for the U-port, SDL for the S-port (R4, R6). -/
inductive Port where
  | urx
  | sdl
  deriving DecidableEq, Repr

/-- The one error mark a received character may carry (R5). A framing error may leave the line at space; its operand
is the line's level when the last stop bit has been sampled. -/
inductive CharMark where
  | good
  | parity
  | framing (line : Level)
  deriving DecidableEq, Repr

/-- The pin levels a power-on reset takes at its end: the straps (R161), the power-good inputs (R94), the external
inputs (R154) and the two receive lines (R4). `true` is high. -/
structure ResetPins where
  ma1 : Bool
  ma0 : Bool
  pg  : Vector Bool 4
  ev  : Vector Bool 4
  urx : Level
  sdl : Level
  deriving DecidableEq, Repr

/-- The commands. A serving command (R53) carries no operand of its own: the management engine serves the oldest LOCAL
entry, and the entry holds the location and the bytes. -/
inductive Instr where
  | powerOnReset (pins : ResetPins)
  | urxCharacterReceived (data : Byte) (mark : CharMark)
  | uportGapExpiry
  | discardEnd
  | upstreamBreak
  | breakEnd
  | transmitterChoice
  | refusalSent
  | replySent
  | noticeSent
  | parkTimerExpiry (tag : Byte)
  | mgmtRead
  | mgmtProbe
  | mgmtWrite
  | uportFormatWrite
  | sportFormatWrite
  | enableWrite
  | clearWrite
  | windowWrite
  | domainConfigWrite
  | wake
  | sleep
  | clearFault
  | clearShadow
  | segmentReset
  | clearCounters
  | shadowSelect
  | shadowRead
  | insert
  | delete
  | idleExpiry (d : DomainId)
  | warningExpiry (d : DomainId)
  | minimumOffExpiry (d : DomainId)
  | settleExpiry (d : DomainId)
  | powerGoodChange (input : Fin 4) (high : Bool)
  | powerGoodFilteredChange (input : Fin 4)
  | extInputChange (input : Fin 4) (high : Bool)
  | filteredChange (input : Fin 4)
  | grant
  | recoveryGapReached
  | lineIdleWaitLimit
  | echoMismatch
  | commandComplete
  | answerTimeout
  | answerCharacterReceived (data : Byte) (mark : CharMark)
  | answerGapExpiry
  | startEdge (port : Port)
  | returnToMark (port : Port)
  | answerCharacterStart
  deriving DecidableEq, Repr

end Sys2Proof
end

