-- ==== Sys2Proof/Decode.lean ====
section
/-! DEFINITION. Words of the command table. No row of spec/opcode_table.json gives bits (98_reader.md: 49 rows, none
with fixed bits), so no word spells a command. -/
namespace Sys2Proof

/-- The command a word of the table's bits spells: none, because no row has bits. -/
def decodeTableWord (_nbits _w : Nat) : Option Instr := none

end Sys2Proof
end

