-- ==== Sys2Proof/Config.lean ====
section
/-! DEFINITION. What the part fixes once: its capacities (R36, R57, R75, R94, R104, R155). No rule of the
specification calls a value undefined or leaves one to an implementation, so no free value stands here. -/
namespace Sys2Proof.Config

/-- Entries of the request table (R36, R38). -/
abbrev requestEntries : Nat := 16

/-- Window records (R57). -/
abbrev windows : Nat := 32

/-- Power domains (R75). -/
abbrev domains : Nat := 8

/-- Shadow entries of the pool (R104). -/
abbrev shadowPool : Nat := 192

/-- Power-good inputs (R94) and external inputs (R154). -/
abbrev inputs : Nat := 4

/-- Reference-clock cycles in one millisecond: REFCLK is 24 MHz (R3). -/
abbrev cyclesPerMs : Nat := 24000

end Sys2Proof.Config
end

