-- ==== Sys2Proof/Machine/State.lean ====
section
/-! DEFINITION. The state of the PS416, block by block as the specification lists it, and the state after a power-on
reset. Plain data: no field has a function type. -/
namespace Sys2Proof.Machine

/-! ## Lines and formats (chapter 1) -/

/-- A receive line as a port sees it. `mark` carries the measure of the idle period in progress, in reference-clock
cycles (R6). The four others are a line at space: `space` after a start edge; `held` after a character that ended in a
framing error with the line still at space (R5); `broken` after a break has been taken, so that one space gives one
break (R8); `unseen` at space since a power-on reset ended (R4). In `held`, `broken` and `unseen` the receiver takes no
character until the line has returned to mark. -/
inductive LineState where
  | mark (idle : Nat)
  | space
  | held
  | broken
  | unseen
  deriving DecidableEq, Repr

/-- A port's parity (R2). -/
inductive Parity where
  | none
  | even
  | odd
  deriving DecidableEq, Repr

/-- A port's stop bits (R2). -/
inductive StopBits where
  | one
  | two
  deriving DecidableEq, Repr

/-- A port's format (R2). A divisor of 0 is never accepted. -/
structure Format where
  parity  : Parity
  stop    : StopBits
  divisor : BitVec 12
  deriving DecidableEq, Repr

/-- The power-on format of both ports (R2). -/
def Format.powerOn : Format := { parity := .even, stop := .one, divisor := 12 }

/-! ## The U-port (chapter 2) -/

/-- The five states of the receiver (R18 to R24). -/
inductive RxState where
  | hunt
  | header
  | payload
  | check
  | discard
  deriving DecidableEq, Repr

/-- The frame under assembly: the header and payload characters taken and the sum of the characters after the lead. -/
structure Assembly where
  header  : List Byte
  payload : List Byte
  sum     : Byte
  deriving DecidableEq, Repr

/-- No frame under assembly. -/
def Assembly.empty : Assembly := { header := [], payload := [], sum := 0 }

/-- Reply statuses in the order of their codes (R15). -/
inductive Status where
  | ok
  | noWindow
  | denied
  | busy
  | tagConflict
  | badRequest
  | domainOff
  | domainFault
  | retry
  | targetNak
  | noResponse
  | lineFault
  | answerError
  | aborted
  | refused
  | invalid
  deriving DecidableEq, Repr

/-- Why admission refuses a frame to the refusal slot (R26, R38). -/
inductive RefusalCause where
  | busy
  | tagConflict
  deriving DecidableEq, Repr

/-- One refusal reply (R26). -/
structure SlotRefusal where
  tag   : Byte
  cause : RefusalCause
  deriving DecidableEq, Repr

/-- What the transmitter is sending (R28): a refusal, a NOTICE, or the reply to the entry with this tag. -/
inductive TxSource where
  | refusal
  | notice
  | reply (tag : Byte)
  deriving DecidableEq, Repr

/-- A frame in progress on UTX: its source, its characters, and the reference-clock cycles since it began, from which
its position in the frame follows. -/
structure Transmission where
  source  : TxSource
  frame   : List Byte
  elapsed : Nat
  deriving DecidableEq, Repr

/-- A U-port format awaiting the reply, named by its tag, that takes it up (R9). -/
structure PendingFormat where
  format : Format
  tag    : Byte
  deriving DecidableEq, Repr

/-- The eleven counters of the U-port (R35, R168). -/
structure UCounters where
  parity      : Half
  framing     : Half
  check       : Half
  gap         : Half
  formatCount : Half
  overrun     : Half
  breaks      : Half
  stray       : Half
  frames      : Half
  replies     : Half
  notices     : Half
  deriving DecidableEq, Repr

/-- All U-port counters at 0. -/
def UCounters.zero : UCounters :=
  { parity := 0, framing := 0, check := 0, gap := 0, formatCount := 0, overrun := 0, breaks := 0, stray := 0,
    frames := 0, replies := 0, notices := 0 }

/-- The U-port (chapter 2, R35). `tx = none` is the transmitter FREE. -/
structure UPort where
  line          : LineState
  rx            : RxState
  asm           : Assembly
  slot          : Option SlotRefusal
  noticePending : Bool
  tx            : Option Transmission
  setting       : Format
  inUse         : Format
  pendingFormat : Option PendingFormat
  counters      : UCounters
  deriving DecidableEq, Repr

/-! ## The request table (chapter 3) -/

/-- The work a command frame carries (R10, R13): operation, target and length as received, unknown operation codes
included. -/
structure Command where
  op       : Byte
  target   : Byte
  location : Half
  length   : Byte
  payload  : List Byte
  deriving DecidableEq, Repr

/-- Activity classes (R57, R79). -/
inductive ActivityClass where
  | passive
  | keep
  | wake
  deriving DecidableEq, Repr

/-- The copy of a window match in an entry (R41, R65). `window` is the index R41 names. `domain = none` is NONE. -/
structure Snapshot where
  window : Fin 32
  domain : Option DomainId
  cls    : ActivityClass
  shadow : Bool
  deriving DecidableEq, Repr

/-- An entry's state (R36), with what it holds in that state alone: PARKED its park timer in milliseconds (R48), ACTIVE
its abort mark (R55), DONE its reply status and reply payload (R43). -/
inductive EntryState where
  | waitingLocal
  | queued
  | parked (timer : Nat)
  | active (abort : Bool)
  | done (status : Status) (reply : List Byte)
  deriving DecidableEq, Repr

/-- One entry of the request table (R36). -/
structure Entry where
  tag      : Byte
  cmd      : Command
  snapshot : Option Snapshot
  attempts : Nat
  state    : EntryState
  deriving DecidableEq, Repr

/-! ## The window table (chapter 4) -/

/-- One window record (R57). -/
structure Window where
  valid        : Bool
  permitsRead  : Bool
  permitsWrite : Bool
  permitsProbe : Bool
  shadow       : Bool
  event        : Bool
  cls          : ActivityClass
  domain       : Option DomainId
  targetBase   : BitVec 7
  targetMask   : BitVec 7
  sizeCode     : Fin 17
  locationBase : Half
  deriving DecidableEq, Repr

/-- A window record at power-on (R73). -/
def Window.powerOn : Window :=
  { valid := false, permitsRead := false, permitsWrite := false, permitsProbe := false, shadow := false,
    event := false, cls := .passive, domain := some 0, targetBase := 0, targetMask := 0, sizeCode := 0,
    locationBase := 0 }

/-! ## Power domains (chapter 5) -/

/-- Domain mode (R75). -/
inductive Mode where
  | managed
  | heldMode
  deriving DecidableEq, Repr

/-- Power-line polarity (R75). -/
inductive Polarity where
  | activeHigh
  | activeLow
  deriving DecidableEq, Repr

/-- Restore policy (R75, R116). -/
inductive RestorePolicy where
  | strict
  | lenient
  deriving DecidableEq, Repr

/-- A domain configuration record (R75). -/
structure DomainConfig where
  mode        : Mode
  wakeAllowed : Bool
  polarity    : Polarity
  policy      : RestorePolicy
  pgInput     : Option (Fin 4)
  checkTarget : Option Byte
  settleTime  : Byte
  minimumOff  : Byte
  warning     : Byte
  wakeLimit   : Byte
  recoveryGap : Byte
  idleReload  : Half
  deriving DecidableEq, Repr

/-- A domain configuration record at power-on (R75). -/
def DomainConfig.powerOn : DomainConfig :=
  { mode := .managed, wakeAllowed := true, polarity := .activeHigh, policy := .strict, pgInput := none,
    checkTarget := none, settleTime := 10, minimumOff := 0, warning := 0, wakeLimit := 1, recoveryGap := 2,
    idleReload := 0 }

/-- The key of a shadow entry: its target and its first location (R103). -/
structure Key where
  target   : Byte
  location : Half
  deriving DecidableEq, Repr

/-- The nine states of a domain (R78), each with what it holds: a state's timer in milliseconds, `none` for a stopped
idle timer (R80); CHECKING its probe target (R88); RESTORING its replay position (R112). `granted` says that the
state's due work has been granted in this stay and its outcome not yet taken (R93, R114, R128). -/
inductive DomState where
  | off
  | cooldown (timer : Nat)
  | settling (timer : Nat)
  | checking (probe : Byte) (granted : Bool)
  | restoring (position : Key) (granted : Bool)
  | on (idle : Option Nat)
  | warning (timer : Nat)
  | draining
  | fault
  deriving DecidableEq, Repr

/-- Last fault cause (R77, R92). -/
inductive FaultCause where
  | none
  | pgLow
  | checkFailed
  | restoreFailed
  | powerLost
  deriving DecidableEq, Repr

/-- One power domain: its configuration record and the stored part of its status record (R75, R77). The other fields
of the status record are views of the state that owns them. -/
structure Domain where
  config      : DomainConfig
  state       : DomState
  attempt     : Nat
  pendingWake : Bool
  cause       : FaultCause
  wakeCount   : Half
  failedCount : Half
  deriving DecidableEq, Repr

/-- A domain at power-on (R101). -/
def Domain.powerOn : Domain :=
  { config := .powerOn, state := .off, attempt := 0, pendingWake := false, cause := .none, wakeCount := 0,
    failedCount := 0 }

/-- A filtered input (R94, R154): its filtered level and, while the raw level differs from it, the milliseconds the raw
level has been stable. The raw level is the filtered level, or its opposite while progress runs. -/
structure Filter where
  level    : Bool
  progress : Option Nat
  deriving DecidableEq, Repr

/-! ## The shadow store (chapter 6) -/

/-- A shadow entry (R103). Its domain is the domain whose list holds it; its length is the number of its bytes. -/
structure ShadowEntry where
  key  : Key
  data : List Byte
  deriving DecidableEq, Repr

/-- The shadow store: eight ordered lists, head first, the restore-incomplete marks and the read cursor (R104, R105,
R122). The cursor's position is an entry's key, or `none` for the end. -/
structure ShadowStore where
  lists      : Vector (List ShadowEntry) 8
  incomplete : Vector Bool 8
  selected   : Option DomainId
  position   : Option Key
  deriving DecidableEq, Repr

/-! ## The segment port (chapter 7) -/

/-- Where an attempt's outcome goes (R125). -/
inductive Originator where
  | entry (tag : Byte)
  | orphan
  | check (d : DomainId)
  | replay (d : DomainId) (key : Key)
  deriving DecidableEq, Repr

/-- The answer under assembly (R125, R134): characters taken, status, length, payload kept, and running sum. -/
structure Answer where
  taken   : Nat
  status  : Byte
  length  : Byte
  payload : List Byte
  sum     : Byte
  deriving DecidableEq, Repr

/-- No character of an answer taken. -/
def Answer.empty : Answer := { taken := 0, status := 0, length := 0, payload := [], sum := 0 }

/-- The exchange record (R125). -/
structure Exchange where
  originator    : Originator
  cmd           : Command
  domain        : Option DomainId
  shadow        : Bool
  gap           : Nat
  attempt       : Nat
  format        : Format
  answerTimeout : Nat
  answer        : Answer
  deriving DecidableEq, Repr

/-- The phases of an attempt: the S-port states other than FREE (R126). -/
inductive Phase where
  | gap
  | send
  | wait
  | receive
  deriving DecidableEq, Repr

/-- An attempt in progress. FREE is the absence of one, so the record is empty exactly in FREE (R126). -/
structure Attempt where
  phase    : Phase
  exchange : Exchange
  deriving DecidableEq, Repr

/-- The work a retry note names (R138). -/
inductive MaintenanceWork where
  | probe
  | replay (key : Key)
  deriving DecidableEq, Repr

/-- A retry note: the work and the number of its next attempt (R138). -/
structure RetryNote where
  work    : MaintenanceWork
  attempt : Nat
  deriving DecidableEq, Repr

/-- The two classes of segment work (R128), which the alternation flag names (R129). -/
inductive WorkClass where
  | maintenance
  | forwarding
  deriving DecidableEq, Repr

/-- The five counters of the S-port (R141, R168). -/
structure SCounters where
  timeouts     : Half
  naks         : Half
  lineFaults   : Half
  answerErrors : Half
  exchangesOk  : Half
  deriving DecidableEq, Repr

/-- All S-port counters at 0. -/
def SCounters.zero : SCounters :=
  { timeouts := 0, naks := 0, lineFaults := 0, answerErrors := 0, exchangesOk := 0 }

/-- The S-port (chapter 7, R143). -/
structure SPort where
  line          : LineState
  attempt       : Option Attempt
  notes         : Vector (Option RetryNote) 8
  prefer        : WorkClass
  setting       : Format
  inUse         : Format
  answerTimeout : Byte
  retryCount    : Byte
  defaultGap    : Byte
  counters      : SCounters
  deriving DecidableEq, Repr

/-! ## The event unit (chapter 8) -/

/-- A set of the fifteen event classes, bit n for class n (R16, R145). -/
abbrev EventSet := BitVec 15

/-- Edge selection (R155). -/
inductive EdgeSelect where
  | off
  | rising
  | falling
  | both
  deriving DecidableEq, Repr

/-- The configuration record of an external input (R155). -/
structure ExtConfig where
  edge     : EdgeSelect
  raise    : Bool
  activity : Byte
  wake     : Byte
  deriving DecidableEq, Repr

/-- An external input's configuration at power-on (R155). -/
def ExtConfig.powerOn : ExtConfig := { edge := .off, raise := false, activity := 0, wake := 0 }

/-- One external input: configuration, filter and edge-seen mark (R154, R155, R157). -/
structure ExtInput where
  config : ExtConfig
  filter : Filter
  seen   : Bool
  deriving DecidableEq, Repr

/-- The event unit (chapter 8, R159). -/
structure EventUnit where
  status : EventSet
  enable : EventSet
  inputs : Vector ExtInput 4
  deriving DecidableEq, Repr

/-! ## The whole part -/

/-- The state of the PS416, and the queue of the commands that wait for it, first in first out. -/
structure State where
  uport      : UPort
  entries    : List Entry
  replyQueue : List Byte
  parkLimit  : Byte
  windows    : Vector Window 32
  hits       : Vector Half 32
  domains    : Vector Domain 8
  pg         : Vector Filter 4
  shadow     : ShadowStore
  sport      : SPort
  events     : EventUnit
  straps     : BitVec 2
  pending    : List Instr
  deriving DecidableEq, Repr

/-- Reasons the machine stops with a fault. There is none: every event the specification describes has an effect or
none, and after each the part goes on. -/
inductive Fault where
  deriving DecidableEq, Repr

/-- Reasons a command has no meaning. -/
inductive Refusal where
  /-- Raised by an arm of `exec` whose command has no meaning yet; safe. No arm raises it. -/
  | notModelled (mnemonic : String)
  deriving DecidableEq, Repr

/-- A line at the end of a power-on reset: at mark an idle period begins; at space it has not been seen at mark (R4). -/
def LineState.atReset : Level → LineState
  | .mark => .mark 0
  | .space => .unseen

/-- An input at the end of a power-on reset: its raw level, with no filter progress (R94, R154). -/
def Filter.atReset (high : Bool) : Filter := { level := high, progress := none }

/-- The part at the end of a power-on reset with these pin levels and these commands waiting (R35, R56, R73, R101,
R124, R143, R159, R176). -/
def State.powerOn (pins : ResetPins) (waiting : List Instr) : State :=
  { uport :=
      { line := .atReset pins.urx, rx := .hunt, asm := .empty, slot := none, noticePending := true, tx := none,
        setting := .powerOn, inUse := .powerOn, pendingFormat := none, counters := .zero }
    entries := []
    replyQueue := []
    parkLimit := 100
    windows := Vector.replicate 32 .powerOn
    hits := Vector.replicate 32 0
    domains := Vector.replicate 8 .powerOn
    pg := ⟨#[.atReset pins.pg[0], .atReset pins.pg[1], .atReset pins.pg[2], .atReset pins.pg[3]], rfl⟩
    shadow :=
      { lists := Vector.replicate 8 [], incomplete := Vector.replicate 8 false, selected := none, position := none }
    sport :=
      { line := .atReset pins.sdl, attempt := none, notes := Vector.replicate 8 none, prefer := .maintenance,
        setting := .powerOn, inUse := .powerOn, answerTimeout := 32, retryCount := 1, defaultGap := 2,
        counters := .zero }
    events :=
      { status := 1, enable := 1
        inputs := ⟨#[⟨.powerOn, .atReset pins.ev[0], false⟩, ⟨.powerOn, .atReset pins.ev[1], false⟩,
                     ⟨.powerOn, .atReset pins.ev[2], false⟩, ⟨.powerOn, .atReset pins.ev[3], false⟩], rfl⟩ }
    straps := BitVec.ofBool pins.ma1 ++ BitVec.ofBool pins.ma0
    pending := waiting }

/-- The pin levels of `State.reset`. DESIGN CHOICE: the specification leaves them to the board (log entry 4). -/
def State.resetPins : ResetPins :=
  { ma1 := false, ma0 := false, pg := Vector.replicate 4 false, ev := Vector.replicate 4 false, urx := .mark,
    sdl := .mark }

/-- The machine right after reset: straps, power-good and external inputs low, both lines at mark, no command waiting. -/
def State.reset : State := .powerOn State.resetPins []

end Sys2Proof.Machine
end

