-- ==== Sys2Proof/Machine/Operands.lean ====
section
/-! DEFINITION. Chapter 1: formats and character times, the bits of a character, frames and their check character, and
the form of a request (R1 to R17, R39). -/
namespace Sys2Proof.Machine

/-! ## Formats and character times (R3) -/

/-- Bits of one character, start and stop bits included (R3). -/
def Format.charBits (f : Format) : Nat :=
  9 + (match f.parity with | .none => 0 | .even => 1 | .odd => 1) + (match f.stop with | .one => 1 | .two => 2)

/-- Reference-clock cycles of one bit time (R3). -/
def Format.bitCycles (f : Format) : Nat := 16 * (f.divisor.toNat + 1)

/-- Reference-clock cycles of `n` character times (R3). -/
def Format.charCycles (f : Format) (n : Nat) : Nat := n * f.charBits * f.bitCycles

/-- A format is one a port may hold: its divisor is 1..4095 (R2). -/
def Format.ok (f : Format) : Bool := f.divisor != 0

/-! ## The bits of a character (R1, R4, R5) -/

/-- The level of a bit: mark is 1 (R1). -/
def levelOf (bit : Bool) : Level := if bit then .mark else .space

/-- The bit a level carries. -/
def bitOf : Level → Bool
  | .mark => true
  | .space => false

/-- The eight data bits, least significant first (R1). -/
def dataBits (b : Byte) : List Bool :=
  [b.getLsbD 0, b.getLsbD 1, b.getLsbD 2, b.getLsbD 3, b.getLsbD 4, b.getLsbD 5, b.getLsbD 6, b.getLsbD 7]

/-- Whether the number of ones is odd. -/
def oddOnes : List Bool → Bool
  | [] => false
  | b :: bs => b ^^ oddOnes bs

/-- The parity bit of a character, where the format has one (R1). -/
def parityBits (p : Parity) (b : Byte) : List Bool :=
  match p with
  | .none => []
  | .even => [oddOnes (dataBits b)]
  | .odd => [!oddOnes (dataBits b)]

/-- The stop bits of a format (R1). -/
def stopBits : StopBits → List Bool
  | .one => [true]
  | .two => [true, true]

/-- The levels of a character on a line, in order, start bit first (R1). -/
def characterLevels (f : Format) (b : Byte) : List Level :=
  (false :: (dataBits b ++ parityBits f.parity b ++ stopBits f.stop)).map levelOf

/-- The byte whose bits, least significant first, are the list's. -/
def byteOfBits : List Bool → Byte
  | [] => 0
  | b :: bs => (byteOfBits bs <<< 1) ||| (BitVec.ofBool b).setWidth 8

/-- A character from its samples after the start bit: eight data bits, the parity bit if the format has one, the stop
bits (R4), with the error mark of R5: a stop bit at space is a framing error and the parity is then not judged. -/
def judgeSamples (f : Format) (samples : List Level) : Byte × CharMark :=
  let bits := samples.map bitOf
  let data := byteOfBits (bits.take 8)
  let rest := bits.drop 8
  let parityLength := match f.parity with | .none => 0 | .even => 1 | .odd => 1
  let stops := rest.drop parityLength
  if stops.all id then
    if rest.take parityLength = parityBits f.parity data then (data, .good) else (data, .parity)
  else (data, .framing (levelOf (stops.getLast?.getD false)))

/-! ## Frames (R10 to R16) -/

/-- The sum, modulo 256, of characters (R11). -/
def checkSum : List Byte → Byte
  | [] => 0
  | b :: bs => b + checkSum bs

/-- A frame: its lead, its body, and the check character that makes the sum after the lead 0 (R10, R11). -/
def makeFrame (lead : Byte) (body : List Byte) : List Byte := lead :: (body ++ [0 - checkSum body])

/-- The characters after the lead sum to 0 (R11). -/
def checkValid (frame : List Byte) : Bool := checkSum frame.tail == 0

/-- High byte of a 16-bit quantity (Conventions). -/
def hiByte (h : Half) : Byte := (h >>> 8).setWidth 8

/-- Low byte of a 16-bit quantity. -/
def loByte (h : Half) : Byte := h.setWidth 8

/-- A 16-bit quantity from its high and low bytes. -/
def joinBytes (hi lo : Byte) : Half := hi ++ lo

/-- Lead of a request frame (R10). -/
def leadRequest : Byte := 0xD2
/-- Lead of a reply frame (R10). -/
def leadReply : Byte := 0xD3
/-- Lead of a NOTICE frame (R10). -/
def leadNotice : Byte := 0xD6
/-- Lead of a segment command (R10). -/
def leadCommand : Byte := 0xB4
/-- Lead of a segment answer (R10). -/
def leadAnswer : Byte := 0xB5

/-- Operation code READ (R13). -/
def opRead : Byte := 0x01
/-- Operation code WRITE (R13). -/
def opWrite : Byte := 0x02
/-- Operation code PROBE (R13). -/
def opProbe : Byte := 0x03

/-- The code of a reply status (R15). -/
def Status.code : Status → Byte
  | .ok => 0x00
  | .noWindow => 0x01
  | .denied => 0x02
  | .busy => 0x03
  | .tagConflict => 0x04
  | .badRequest => 0x05
  | .domainOff => 0x06
  | .domainFault => 0x07
  | .retry => 0x08
  | .targetNak => 0x09
  | .noResponse => 0x0A
  | .lineFault => 0x0B
  | .answerError => 0x0C
  | .aborted => 0x0D
  | .refused => 0x0E
  | .invalid => 0x0F

/-- The status of a refusal (R26). -/
def RefusalCause.status : RefusalCause → Status
  | .busy => .busy
  | .tagConflict => .tagConflict

/-- A reply frame: tag, status, length, payload (R10, R15). -/
def replyFrame (tag : Byte) (status : Status) (payload : List Byte) : List Byte :=
  makeFrame leadReply ([tag, status.code, BitVec.ofNat 8 payload.length] ++ payload)

/-- The refusal reply of the slot (R29). -/
def refusalFrame (r : SlotRefusal) : List Byte := replyFrame r.tag r.cause.status []

/-- The two characters of a set of event classes: high, bit 7 of it 0, and low (R16). -/
def eventHigh (e : EventSet) : Byte := (e >>> 8).setWidth 8
/-- The low character of a set of event classes (R16). -/
def eventLow (e : EventSet) : Byte := e.setWidth 8

/-- A NOTICE frame carrying a set of classes (R16). -/
def noticeFrame (e : EventSet) : List Byte := makeFrame leadNotice [eventHigh e, eventLow e]

/-- The payload count of a command: the payload of a WRITE, none otherwise (R12). -/
def commandPayload (c : Command) : List Byte := if c.op = opWrite then c.payload else []

/-- A segment command frame (R10, R13). -/
def segmentFrame (c : Command) : List Byte :=
  makeFrame leadCommand ([c.op, c.target, hiByte c.location, loByte c.location, c.length] ++ commandPayload c)

/-- The payload count of a request frame: its length for a WRITE, 0 for every other operation code (R12). -/
def requestPayloadCount (op length : Byte) : Nat := if op = opWrite then length.toNat else 0

/-- The command a request header of six characters gives, with its payload (R10): the tag is the first character. -/
def headerCommand (header payload : List Byte) : Command :=
  { op := header.getD 1 0, target := header.getD 2 0, location := joinBytes (header.getD 3 0) (header.getD 4 0),
    length := header.getD 5 0, payload := payload }

/-- A header that makes the frame's layout unusable: a tag above 0x0F, or a WRITE of more than 32 bytes (R19, R23). -/
def headerUnusable (header : List Byte) : Bool :=
  (header.getD 0 0).toNat > 0x0F || (header.getD 1 0 == opWrite && (header.getD 5 0).toNat > 32)

/-! ## The form of a request (R14, R39) -/

/-- The operation is one of the three (R39). -/
def knownOp (op : Byte) : Bool := op == opRead || op == opWrite || op == opProbe

/-- The length suits the operation (R39): 1..32 for READ, at least 1 for WRITE, 0 for PROBE. -/
def lengthSuits (op length : Byte) : Bool :=
  if op = opRead then 1 ≤ length.toNat && length.toNat ≤ 32
  else if op = opWrite then 1 ≤ length.toNat
  else length == 0

/-- The range `location` to `location + length - 1` ends at or below 0xFFFF (R39). -/
def rangeFits (location : Half) (length : Nat) : Bool := location.toNat + length ≤ 0x10000

/-- A malformed request (R39). -/
def malformed (c : Command) : Bool :=
  !(knownOp c.op && (1 ≤ c.target.toNat && c.target.toNat ≤ 0x7F) && lengthSuits c.op c.length
    && rangeFits c.location c.length.toNat)

/-- The expected length of an answer: the command's for a READ answered ACK, 0 otherwise (R17, R134). -/
def expectedAnswerLength (c : Command) (status : Byte) : Byte :=
  if c.op = opRead ∧ status = 0 then c.length else 0

/-- The position of a transmission: how many of its characters have been sent, its last one still on the line (R28). -/
def Transmission.position (t : Transmission) (f : Format) : Nat :=
  min (t.frame.length - 1) (t.elapsed / f.charCycles 1)

end Sys2Proof.Machine
end

