-- ==== Sys2Proof/Machine/Flags.lean ====
section
/-! DEFINITION. Event classes, ALERT and notice-pending (R145, R151, R152), and the saturating counters. -/
namespace Sys2Proof.Machine

/-- The fifteen event classes, in the order of their numbers (R145). -/
inductive EventClass where
  | powerUp
  | linkError
  | overrun
  | windowHit
  | domainWarning
  | domainDown
  | domainUp
  | domainFault
  | wakeRetry
  | restoreSkip
  | shadowIncomplete
  | parkExpired
  | segmentError
  | extInput
  | mgmtError
  deriving DecidableEq, Repr

/-- The number of a class (R145). -/
def EventClass.number : EventClass → Nat
  | .powerUp => 0
  | .linkError => 1
  | .overrun => 2
  | .windowHit => 3
  | .domainWarning => 4
  | .domainDown => 5
  | .domainUp => 6
  | .domainFault => 7
  | .wakeRetry => 8
  | .restoreSkip => 9
  | .shadowIncomplete => 10
  | .parkExpired => 11
  | .segmentError => 12
  | .extInput => 13
  | .mgmtError => 14

/-- The set that holds one class (R16). -/
def EventClass.bit (c : EventClass) : EventSet := BitVec.twoPow 15 c.number

/-- A set holds a class. -/
def EventSet.has (e : EventSet) (c : EventClass) : Bool := e.getLsbD c.number

/-- The classes both set and enabled (R151). -/
def EventUnit.live (u : EventUnit) : EventSet := u.status &&& u.enable

/-- The ALERT line, RESETN high: asserted exactly while some class is both set and enabled (R151). While RESETN is held
low it is released (`State.outputsAt`). -/
def State.alert (s : State) : Bool := s.events.live != 0

/-- A counter raised by one; it stays at 65535 (Conventions, R58, R141, R168). -/
def satInc (c : Half) : Half := if c = 0xFFFF then c else c + 1

/-! ## One update per block -/

/-- The U-port replaced. -/
def State.withUport (s : State) (u : UPort) : State := { s with uport := u }
/-- The entries replaced. -/
def State.withEntries (s : State) (es : List Entry) : State := { s with entries := es }
/-- The reply queue replaced. -/
def State.withReplyQueue (s : State) (q : List Byte) : State := { s with replyQueue := q }
/-- The park limit replaced. -/
def State.withParkLimit (s : State) (n : Byte) : State := { s with parkLimit := n }
/-- The window records replaced. -/
def State.withWindows (s : State) (w : Vector Window 32) : State := { s with windows := w }
/-- The hit counters replaced. -/
def State.withHits (s : State) (h : Vector Half 32) : State := { s with hits := h }
/-- The domains replaced. -/
def State.withDomains (s : State) (d : Vector Domain 8) : State := { s with domains := d }
/-- The power-good filters replaced. -/
def State.withPg (s : State) (p : Vector Filter 4) : State := { s with pg := p }
/-- The shadow store replaced. -/
def State.withShadow (s : State) (h : ShadowStore) : State := { s with shadow := h }
/-- The S-port replaced. -/
def State.withSport (s : State) (p : SPort) : State := { s with sport := p }
/-- The event unit replaced. -/
def State.withEvents (s : State) (e : EventUnit) : State := { s with events := e }
/-- The queue of waiting commands replaced. -/
def State.withPending (s : State) (q : List Instr) : State := { s with pending := q }

/-! ## Setting a class, and the end of an event -/

/-- A class is set in the status set; setting it again has no further effect (R145). -/
def State.raise (s : State) (c : EventClass) : State :=
  s.withEvents { s.events with status := s.events.status ||| c.bit }

/-- Notice-pending is raised in any event that leaves the classes set and enabled non-empty where they were empty
before it (R152): `s` is the state before the event, `t` the state it leaves. -/
def announce (s t : State) : State :=
  if s.events.live = 0 ∧ t.events.live ≠ 0 then t.withUport { t.uport with noticePending := true } else t

/-- The outcome of a command whose effect is `t`: the next state, with notice-pending judged over the whole event. -/
def finishEvent (s t : State) : Host.Outcome State Fault Refusal := .next (announce s t)

end Sys2Proof.Machine
end

