-- ==== Sys2Proof/Machine/Ops.lean ====
section
/-! DEFINITION. Shared operations over domains and entries: access, finishing an entry, the work of a domain, the
management address and the power lines. -/
namespace Sys2Proof.Machine

/-- A vector written out from its elements' indices. -/
def tabulate (n : Nat) {α : Type} (f : Fin n → α) : Vector α n := ⟨⟨List.ofFn f⟩, by simp⟩

/-- The eight domains, lowest number first. -/
def allDomains : List DomainId := [0, 1, 2, 3, 4, 5, 6, 7]

/-- The management address: 0x7C plus the straps, MA1 high (R161). -/
def State.mgmtAddress (s : State) : Byte := 0x7C + s.straps.setWidth 8

/-! ## Domains -/

/-- Domain `d`. -/
def State.dom (s : State) (d : DomainId) : Domain := s.domains.get d

/-- Domain `d` replaced. -/
def State.setDom (s : State) (d : DomainId) (x : Domain) : State := s.withDomains (s.domains.set d x)

/-- Domain `d`'s state replaced; what the old state held (a timer, a probe target, a replay position) goes with it. -/
def State.setDomState (s : State) (d : DomainId) (x : DomState) : State := s.setDom d { s.dom d with state := x }

/-- The states in which the power line is active (R78). -/
def DomState.powered : DomState → Bool
  | .settling _ | .checking _ _ | .restoring _ _ | .on _ | .warning _ | .draining => true
  | .off | .cooldown _ | .fault => false

/-- The states in service: ON, WARNING and DRAINING (R45, R78). -/
def DomState.inService : DomState → Bool
  | .on _ | .warning _ | .draining => true
  | .off | .cooldown _ | .settling _ | .checking _ _ | .restoring _ _ | .fault => false

/-- The domain is in RESTORING (R113). -/
def DomState.isRestoring : DomState → Bool
  | .restoring _ _ => true
  | .off | .cooldown _ | .settling _ | .checking _ _ | .on _ | .warning _ | .draining | .fault => false

/-- The domain is in FAULT (R92). -/
def DomState.isFault : DomState → Bool
  | .fault => true
  | .off | .cooldown _ | .settling _ | .checking _ _ | .restoring _ _ | .on _ | .warning _ | .draining => false

/-- The domain is in DRAINING (R83). -/
def DomState.isDraining : DomState → Bool
  | .draining => true
  | .off | .cooldown _ | .settling _ | .checking _ _ | .restoring _ _ | .on _ | .warning _ | .fault => false

/-- The domain is in WARNING (R82). -/
def DomState.isWarning : DomState → Bool
  | .warning _ => true
  | .off | .cooldown _ | .settling _ | .checking _ _ | .restoring _ _ | .on _ | .draining | .fault => false

/-- The code of a state in the status record (R171). -/
def DomState.code : DomState → Byte
  | .off => 0
  | .cooldown _ => 1
  | .settling _ => 2
  | .checking _ _ => 3
  | .restoring _ _ => 4
  | .on _ => 5
  | .warning _ => 6
  | .draining => 7
  | .fault => 8

/-- The level of power line PWRd, `true` for high: active exactly in the powered states, the active level given by the
polarity as it stands (R76, R78). -/
def State.powerLine (s : State) (d : DomainId) : Bool :=
  match (s.dom d).config.polarity with
  | .activeHigh => (s.dom d).state.powered
  | .activeLow => !(s.dom d).state.powered

/-- The idle time remaining, in units of 10 ms rounded up; a stopped timer shows 0 (R80). -/
def DomState.idleRemaining : DomState → Nat
  | .on (some t) => (t + 9) / 10
  | .on none | .off | .cooldown _ | .settling _ | .checking _ _ | .restoring _ _ | .warning _ | .draining | .fault => 0

/-! ## Entries -/

/-- The domain of an entry's snapshot, where it has a snapshot naming one (R65). -/
def Entry.domain? (e : Entry) : Option DomainId := e.snapshot.bind (·.domain)

/-- The entry is LOCAL (R36). -/
def EntryState.isLocal : EntryState → Bool
  | .waitingLocal => true
  | .queued | .parked _ | .active _ | .done _ _ => false

/-- The entry is QUEUED. -/
def EntryState.isQueued : EntryState → Bool
  | .queued => true
  | .waitingLocal | .parked _ | .active _ | .done _ _ => false

/-- The entry is PARKED. -/
def EntryState.isParked : EntryState → Bool
  | .parked _ => true
  | .waitingLocal | .queued | .active _ | .done _ _ => false

/-- The entry is ACTIVE. -/
def EntryState.isActive : EntryState → Bool
  | .active _ => true
  | .waitingLocal | .queued | .parked _ | .done _ _ => false

/-- The entry is DONE. -/
def EntryState.isDone : EntryState → Bool
  | .done _ _ => true
  | .waitingLocal | .queued | .parked _ | .active _ => false

/-- The entry with a tag (tags of occupied entries differ, R38). -/
def State.entry? (s : State) (tag : Byte) : Option Entry := s.entries.find? (·.tag == tag)

/-- The state of the entry with this tag replaced; its place in the arrival order stays (R37). -/
def State.setEntryState (s : State) (tag : Byte) (x : EntryState) : State :=
  s.withEntries (s.entries.map fun e => if e.tag = tag then { e with state := x } else e)

/-- Every entry `p` names becomes DONE with `status` and no reply payload, and joins the tail of the reply queue in
arrival order (R43). A DONE entry does not change again. -/
def State.finishWhere (s : State) (p : Entry → Bool) (status : Status) : State :=
  (s.withEntries (s.entries.map fun e =>
      if p e && !e.state.isDone then { e with state := .done status [] } else e)).withReplyQueue
    (s.replyQueue ++ (s.entries.filter fun e => p e && !e.state.isDone).map (·.tag))

/-- The entry with this tag becomes DONE and joins the tail of the reply queue (R43). -/
def State.finishEntry (s : State) (tag : Byte) (status : Status) (reply : List Byte) : State :=
  (s.setEntryState tag (.done status reply)).withReplyQueue (s.replyQueue ++ [tag])

/-- The parked count of a domain (R52). -/
def State.parkedCount (s : State) (d : DomainId) : Nat :=
  (s.entries.filter fun e => e.state.isParked && e.domain? == some d).length

/-- The exchange in progress is an orphan of the domain (R52). -/
def State.orphanOf (s : State) (d : DomainId) : Bool :=
  match s.sport.attempt with
  | some a => a.exchange.originator == .orphan && a.exchange.domain == some d
  | none => false

/-- An entry is work in progress of a domain: QUEUED or ACTIVE under a snapshot naming it (R52). -/
def Entry.isWorkOf (e : Entry) (d : DomainId) : Bool :=
  (e.state.isQueued || e.state.isActive) && e.domain? == some d

/-- The work in progress of a domain is empty: no entry QUEUED or ACTIVE, no orphan (R52). -/
def State.workEmpty (s : State) (d : DomainId) : Bool :=
  !s.entries.any (·.isWorkOf d) && !s.orphanOf d

end Sys2Proof.Machine
end

