-- ==== Sys2Proof/Machine/Shadow.lean ====
section
/-! DEFINITION. The shadow store: lists and keys, capture and edits, the read cursor (R103 to R124). -/
namespace Sys2Proof.Machine

/-- The list of a domain, head first (R104). -/
def ShadowStore.list (h : ShadowStore) (d : DomainId) : List ShadowEntry := h.lists.get d

/-- The list of a domain replaced. -/
def ShadowStore.setList (h : ShadowStore) (d : DomainId) (l : List ShadowEntry) : ShadowStore :=
  { h with lists := h.lists.set d l }

/-- The shadow entry count of a domain (R104). -/
def ShadowStore.count (h : ShadowStore) (d : DomainId) : Nat := (h.list d).length

/-- Slots in use: the sum of the eight counts (R104). -/
def ShadowStore.used (h : ShadowStore) : Nat := (allDomains.map h.count).sum

/-- A slot is free (R104). -/
def ShadowStore.hasFreeSlot (h : ShadowStore) : Bool := h.used < Config.shadowPool

/-- A list holds a key. -/
def holdsKey (l : List ShadowEntry) (k : Key) : Bool := l.any (·.key == k)

/-- The domain whose list holds a key (R103, R104). -/
def ShadowStore.holder (h : ShadowStore) (k : Key) : Option DomainId := allDomains.find? fun d => holdsKey (h.list d) k

/-- The entry a list holds under a key. -/
def entryAt (l : List ShadowEntry) (k : Key) : Option ShadowEntry := l.find? (·.key == k)

/-- The key of the entry that follows the one with key `k` in a list, or `none` past the tail (R115, R123). -/
def follower (k : Key) : List ShadowEntry → Option Key
  | [] => none
  | e :: rest => if e.key = k then rest.head?.map (·.key) else follower k rest

/-- The entry with this key is the tail of the list. -/
def isTail (l : List ShadowEntry) (k : Key) : Bool := l.getLast?.map (·.key) == some k

/-- A list without the entry of this key; those behind it close up (R104). -/
def dropKey (l : List ShadowEntry) (k : Key) : List ShadowEntry := l.filter (·.key != k)

/-- The cursor when the entry with key `k` leaves the list of `e`: a cursor on it moves to the entry that followed it,
or to the end (R123). -/
def ShadowStore.cursorPast (h : ShadowStore) (e : DomainId) (k : Key) : ShadowStore :=
  if h.selected = some e ∧ h.position = some k then { h with position := follower k (h.list e) } else h

/-- The entry with key `k` taken from the list of `e` (R109, R120). -/
def ShadowStore.remove (h : ShadowStore) (e : DomainId) (k : Key) : ShadowStore :=
  (h.cursorPast e k).setList e (dropKey (h.list e) k)

/-- An entry appended at the tail of a list (R104). -/
def ShadowStore.append (h : ShadowStore) (d : DomainId) (x : ShadowEntry) : ShadowStore :=
  h.setList d (h.list d ++ [x])

/-- An entry of `d`'s own list replaced and moved to `d`'s tail; an entry already the tail keeps its position, and the
cursor stays on it (R108, R123). -/
def ShadowStore.recapture (h : ShadowStore) (d : DomainId) (x : ShadowEntry) : ShadowStore :=
  if isTail (h.list d) x.key then h.setList d (dropKey (h.list d) x.key ++ [x])
  else (h.remove d x.key).append d x

/-- The cases of capture and of INSERT that depend on the store and the domains (R107 cases 2 to 7, R119). -/
inductive StoreCase where
  | ownRestoring
  | ownList
  | holderRestoring
  | otherList (e : DomainId)
  | newKey
  | poolFull
  deriving DecidableEq, Repr

/-- The case a write of key `k` for domain `d` meets, in the order of R107. -/
def State.storeCase (s : State) (d : DomainId) (k : Key) : StoreCase :=
  if (s.dom d).state.isRestoring then .ownRestoring
  else if holdsKey (s.shadow.list d) k then .ownList
  else
    match s.shadow.holder k with
    | some e => if (s.dom e).state.isRestoring then .holderRestoring else .otherList e
    | none => if s.shadow.hasFreeSlot then .newKey else .poolFull

/-- The store after an entry has been put in `d`'s list under its case, or `none` where it is not (R107, R119). -/
def State.storePut (s : State) (d : DomainId) (x : ShadowEntry) : Option ShadowStore :=
  match s.storeCase d x.key with
  | .ownRestoring | .holderRestoring | .poolFull => none
  | .ownList => some (s.shadow.recapture d x)
  | .otherList e => some ((s.shadow.remove e x.key).append d x)
  | .newKey => some (s.shadow.append d x)

/-- The most bytes a shadow entry holds (R103, R107 case 1). -/
def shadowDataLimit : Nat := 8

/-- A capture that is not made: `d`'s restore-incomplete mark and SHADOW_INCOMPLETE are set (R110). -/
def State.captureNotMade (s : State) (d : DomainId) : State :=
  (s.withShadow { s.shadow with incomplete := s.shadow.incomplete.set d true }).raise .shadowIncomplete

/-- A capture offer for domain `d` (R106, R107). -/
def State.capture (s : State) (d : DomainId) (c : Command) : State :=
  if c.length.toNat > shadowDataLimit then s.captureNotMade d
  else
    match s.storePut d { key := { target := c.target, location := c.location }, data := c.payload } with
    | some h => s.withShadow h
    | none => s.captureNotMade d

/-- The offer of an OK outcome: made for a WRITE whose snapshot has the shadow flag and a domain (R106). -/
def State.offerCapture (s : State) (c : Command) (domain : Option DomainId) (shadow : Bool) : State :=
  if c.op = opWrite ∧ shadow = true then
    match domain with
    | some d => s.capture d c
    | none => s
  else s

/-- `d`'s list emptied and its restore-incomplete mark cleared; a cursor in the list goes to the end (R121, R123). -/
def ShadowStore.clear (h : ShadowStore) (d : DomainId) : ShadowStore :=
  { h.setList d [] with
    incomplete := h.incomplete.set d false
    position := if h.selected = some d then none else h.position }

/-- The cursor set to the head of `d`'s list (R122). -/
def ShadowStore.select (h : ShadowStore) (d : DomainId) : ShadowStore :=
  { h with selected := some d, position := (h.list d).head?.map (·.key) }

/-- The entry at the cursor with its domain, or `none` at the end (R122). -/
def ShadowStore.atCursor (h : ShadowStore) : Option (DomainId × ShadowEntry) :=
  match h.selected, h.position with
  | some d, some k => (entryAt (h.list d) k).map fun x => (d, x)
  | _, _ => none

/-- The cursor advanced past the entry it names; at the end it stays (R122). -/
def ShadowStore.advance (h : ShadowStore) : ShadowStore :=
  match h.selected, h.position with
  | some d, some k => { h with position := follower k (h.list d) }
  | _, _ => h

/-- A list of bytes cut or filled with 0x00 to `n` bytes. -/
def fitBytes (n : Nat) (l : List Byte) : List Byte := (l ++ List.replicate n 0).take n

/-- The read image of an entry: sixteen bytes, data beyond the length 0x00 (R122, R175). -/
def readImage (d : DomainId) (x : ShadowEntry) : List Byte :=
  [0, BitVec.ofNat 8 d.val, x.key.target, hiByte x.key.location, loByte x.key.location,
    BitVec.ofNat 8 x.data.length] ++ fitBytes 8 x.data ++ [0, 0]

/-- The end marker (R122, R175). -/
def endMarker : List Byte := List.replicate 16 0

end Sys2Proof.Machine
end

