-- ==== Sys2Proof/Machine/Domains.lean ====
section
/-! DEFINITION. The domain controller: transitions, activity, wakes, failures and power-good (R79 to R102). -/
namespace Sys2Proof.Machine

/-- A setting in units of 10 ms, in milliseconds (R80, R84). -/
def tens (b : Byte) : Nat := b.toNat * 10

/-- The idle timer as a load leaves it: the idle reload in MANAGED mode when it is not 0, stopped otherwise (R80). -/
def DomainConfig.idleLoad (c : DomainConfig) : Option Nat :=
  match c.mode with
  | .managed => if c.idleReload = 0 then none else some (c.idleReload.toNat * 10)
  | .heldMode => none

/-- A domain's retry note cleared: the domain leaves the state that asked for the work (R138). -/
def State.clearNote (s : State) (d : DomainId) : State :=
  s.withSport { s.sport with notes := s.sport.notes.set d none }

/-- The domain enters SETTLING with its settle timer loaded (R86, R87). -/
def State.enterSettling (s : State) (d : DomainId) : State :=
  s.setDomState d (.settling (s.dom d).config.settleTime.toNat)

/-- A wake starts from OFF: attempt number 1, SETTLING (R86). -/
def State.wakeStart (s : State) (d : DomainId) : State :=
  (s.setDom d { s.dom d with attempt := 1 }).enterSettling d

/-- The minimum off expiry: with pending wake the attempt number rises and the domain enters SETTLING, otherwise it
enters OFF (R84). -/
def State.minimumOffDone (s : State) (d : DomainId) : State :=
  if (s.dom d).pendingWake then
    (s.setDom d { s.dom d with attempt := (s.dom d).attempt + 1 }).enterSettling d
  else s.setDomState d .off

/-- The domain enters COOLDOWN with its minimum off timer loaded; with a minimum off time of 0 it passes through
(R84). -/
def State.enterCooldown (s : State) (d : DomainId) : State :=
  if (s.dom d).config.minimumOff = 0 then s.minimumOffDone d
  else s.setDomState d (.cooldown (tens (s.dom d).config.minimumOff))

/-- A DRAINING domain whose work in progress is empty powers down: DOMAIN_DOWN is set and it enters COOLDOWN (R83). -/
def State.drainCheck (s : State) (d : DomainId) : State :=
  if (s.dom d).state.isDraining && s.workEmpty d then (s.raise .domainDown).enterCooldown d else s

/-- The domain enters DRAINING; with no work in progress it passes through (R83). -/
def State.enterDraining (s : State) (d : DomainId) : State := (s.setDomState d .draining).drainCheck d

/-- Pending wake is set (R85). -/
def State.setPendingWake (s : State) (d : DomainId) : State := s.setDom d { s.dom d with pendingWake := true }

/-- Activity: in ON the idle timer is loaded; in WARNING the domain returns to ON with it loaded; in any other state
nothing (R81). -/
def State.activity (s : State) (d : DomainId) : State :=
  match (s.dom d).state with
  | .on _ | .warning _ => s.setDomState d (.on (s.dom d).config.idleLoad)
  | .off | .cooldown _ | .settling _ | .checking _ _ | .restoring _ _ | .draining | .fault => s

/-- The WAKE command's effect outside FAULT (R96): `none` where it is REFUSED. -/
def State.wakeCommand (s : State) (d : DomainId) : Option State :=
  match (s.dom d).state with
  | .off => some (s.wakeStart d)
  | .cooldown _ | .draining => some (s.setPendingWake d)
  | .on _ | .warning _ => some (s.activity d)
  | .settling _ | .checking _ _ | .restoring _ _ => some s
  | .fault => none

/-- The SLEEP command's effect (R97): `none` where it is REFUSED. -/
def State.sleepCommand (s : State) (d : DomainId) : Option State :=
  match (s.dom d).state with
  | .on _ | .warning _ => some (s.enterDraining d)
  | .off | .cooldown _ | .draining => some s
  | .settling _ | .checking _ _ | .restoring _ _ | .fault => none

/-- The CLEAR_FAULT command's effect (R98): `none` where it is REFUSED. -/
def State.clearFaultCommand (s : State) (d : DomainId) : Option State :=
  match (s.dom d).state with
  | .fault => some (s.setDom d { s.dom d with state := .off, attempt := 0, cause := .none })
  | .off | .cooldown _ | .settling _ | .checking _ _ | .restoring _ _ | .on _ | .warning _ | .draining => none

/-- The CLEAR_SHADOW command's effect (R121): `none` where it is REFUSED. -/
def State.clearShadowCommand (s : State) (d : DomainId) : Option State :=
  if (s.dom d).state.isRestoring then none else some (s.withShadow (s.shadow.clear d))

/-- The wake action of an external input: the WAKE command honouring wake allowed, with no reply (R99). -/
def State.wakeAction (s : State) (d : DomainId) : State :=
  match (s.dom d).state with
  | .off => if (s.dom d).config.wakeAllowed then s.wakeStart d else s
  | .cooldown _ | .draining => if (s.dom d).config.wakeAllowed then s.setPendingWake d else s
  | .on _ | .warning _ => s.activity d
  | .settling _ | .checking _ _ | .restoring _ _ | .fault => s

/-! ## Arrivals (R79) -/

/-- The verdict on an arrival (R42, R79). -/
inductive Verdict where
  | queued
  | parked
  | domainOff
  | domainFault
  deriving DecidableEq, Repr

/-- The verdict by class and state, with wake allowed and pending wake (R79). -/
def arrivalVerdict (cls : ActivityClass) (x : Domain) : Verdict :=
  match x.state with
  | .on _ | .warning _ => .queued
  | .fault => .domainFault
  | .draining | .off =>
    match cls with
    | .wake => if x.config.wakeAllowed then .parked else .domainOff
    | .passive | .keep => .domainOff
  | .cooldown _ =>
    match cls with
    | .wake => if x.pendingWake || x.config.wakeAllowed then .parked else .domainOff
    | .passive | .keep => .domainOff
  | .settling _ | .checking _ _ | .restoring _ _ =>
    match cls with
    | .wake => .parked
    | .passive | .keep => .domainOff

/-- What an arrival does to the domain (R79, R81, R85, R86). -/
def State.arrivalEffect (s : State) (cls : ActivityClass) (d : DomainId) : State :=
  match cls with
  | .passive => s
  | .keep => s.activity d
  | .wake =>
    match (s.dom d).state with
    | .on _ | .warning _ => s.activity d
    | .draining => if (s.dom d).config.wakeAllowed then s.setPendingWake d else s
    | .cooldown _ => if (s.dom d).pendingWake || (s.dom d).config.wakeAllowed then s.setPendingWake d else s
    | .off => if (s.dom d).config.wakeAllowed then s.wakeStart d else s
    | .settling _ | .checking _ _ | .restoring _ _ | .fault => s

/-! ## Reaching ON, and failing -/

/-- The PARKED entries of a domain become QUEUED (R49, R90). -/
def State.release (s : State) (d : DomainId) : State :=
  s.withEntries (s.entries.map fun e =>
    if e.state.isParked && e.domain? == some d then { e with state := .queued } else e)

/-- The restore completes and the domain reaches ON (R90). -/
def State.reachOn (s : State) (d : DomainId) : State :=
  ((s.setDom d { s.dom d with
      state := .on (s.dom d).config.idleLoad, attempt := 0, pendingWake := false,
      wakeCount := satInc (s.dom d).wakeCount }).release d).raise .domainUp

/-- The domain enters RESTORING with its replay position at the head of its list; an empty list is complete at once
(R89, R112). -/
def State.enterRestoring (s : State) (d : DomainId) : State :=
  match s.shadow.list d with
  | x :: _ => s.setDomState d (.restoring x.key false)
  | [] => s.reachOn d

/-- The domain's own part of entering FAULT (R92, steps 1 to 4 and 6); its entries are finished by `finishFaulted`. -/
def State.enterFault (s : State) (d : DomainId) (cause : FaultCause) : State :=
  ((s.setDom d { s.dom d with state := .fault, cause := cause, pendingWake := false }).clearNote d).raise .domainFault

/-- A failed attempt is counted, and the domain's retry note is cleared (R91, R138). -/
def State.countFailure (s : State) (d : DomainId) : State :=
  (s.setDom d { s.dom d with failedCount := satInc (s.dom d).failedCount }).clearNote d

/-- An attempt fails (R91): counted, then COOLDOWN with pending wake and WAKE_RETRY while the attempt number is below
the wake limit, FAULT otherwise. -/
def State.attemptFails (s : State) (d : DomainId) (cause : FaultCause) : State :=
  if (s.dom d).attempt < (s.dom d).config.wakeLimit.toNat then
    (((s.countFailure d).setPendingWake d).raise .wakeRetry).enterCooldown d
  else (s.countFailure d).enterFault d cause

/-- An entry waiting for a domain that entered FAULT between `s` and `t`. -/
def faultedEntry (s t : State) (e : Entry) : Bool :=
  (e.state.isQueued || e.state.isParked) &&
    match e.domain? with
    | some d => (t.dom d).state.isFault && !(s.dom d).state.isFault
    | none => false

/-- The PARKED and QUEUED entries of every domain that entered FAULT between `s` and `t` become DONE with DOMAIN_FAULT
and join the reply queue in arrival order (R37, R43, R51, R92). -/
def finishFaulted (s t : State) : State := t.finishWhere (faultedEntry s t) .domainFault

/-! ## Power good (R94, R95) -/

/-- A power-good falling acts on one domain by its state (R95). -/
def State.powerGoodFalls (s : State) (d : DomainId) : State :=
  match (s.dom d).state with
  | .on _ | .warning _ | .draining => s.enterFault d .powerLost
  | .checking _ _ | .restoring _ _ => s.attemptFails d .pgLow
  | .settling _ | .off | .cooldown _ | .fault => s

/-- A power-good falling of an input acts on every domain assigned to it, each by its own state (R94, R95). -/
def State.powerGoodFalling (s : State) (input : Fin 4) : State :=
  allDomains.foldl (fun t d => if (t.dom d).config.pgInput = some input then t.powerGoodFalls d else t) s

/-- A raw level reaches a filter: away from the filtered level progress starts, back to it progress ends (R94, R154). -/
def Filter.rawLevel (f : Filter) (high : Bool) : Filter :=
  if high = f.level then { f with progress := none }
  else { f with progress := some (f.progress.getD 0) }

/-- The filtered change: the level takes the raw level, with no progress left (R154). -/
def Filter.change (f : Filter) : Filter := { level := !f.level, progress := none }

/-! ## The timer commands -/

/-- IDLE_EXPIRY (R80): a running idle timer reaches 0. -/
def execIdleExpiry (d : DomainId) (s : State) : Host.Outcome State Fault Refusal :=
  finishEvent s <|
    match (s.dom d).state with
    | .on (some _) =>
      match (s.dom d).config.mode with
      | .managed =>
        if (s.dom d).config.warning = 0 then (s.raise .domainWarning).enterDraining d
        else (s.raise .domainWarning).setDomState d (.warning (tens (s.dom d).config.warning))
      | .heldMode => s.setDomState d (.on none)
    | .on none | .off | .cooldown _ | .settling _ | .checking _ _ | .restoring _ _ | .warning _ | .draining | .fault => s

/-- WARNING_EXPIRY (R81): the warning timer reaches 0 and the domain enters DRAINING. -/
def execWarningExpiry (d : DomainId) (s : State) : Host.Outcome State Fault Refusal :=
  finishEvent s <| if (s.dom d).state.isWarning then s.enterDraining d else s

/-- MINIMUM_OFF_EXPIRY (R84). -/
def execMinimumOffExpiry (d : DomainId) (s : State) : Host.Outcome State Fault Refusal :=
  finishEvent s <|
    match (s.dom d).state with
    | .cooldown _ => s.minimumOffDone d
    | .off | .settling _ | .checking _ _ | .restoring _ _ | .on _ | .warning _ | .draining | .fault => s

/-- The power-good input assigned to a domain is low (R87). -/
def State.powerGoodLow (s : State) (d : DomainId) : Bool :=
  match (s.dom d).config.pgInput with
  | some i => !(s.pg.get i).level
  | none => false

/-- SETTLE_EXPIRY (R87): PG_LOW, CHECKING with its probe due, or RESTORING. -/
def execSettleExpiry (d : DomainId) (s : State) : Host.Outcome State Fault Refusal :=
  finishEvent s <|
    match (s.dom d).state with
    | .settling _ =>
      if s.powerGoodLow d then finishFaulted s (s.attemptFails d .pgLow)
      else
        match (s.dom d).config.checkTarget with
        | some target => s.setDomState d (.checking target false)
        | none => s.enterRestoring d
    | .off | .cooldown _ | .checking _ _ | .restoring _ _ | .on _ | .warning _ | .draining | .fault => s

/-- POWER_GOOD_CHANGE (R94): the raw level of a power-good input changes. -/
def execPowerGoodChange (input : Fin 4) (high : Bool) (s : State) : Host.Outcome State Fault Refusal :=
  finishEvent s (s.withPg (s.pg.set input ((s.pg.get input).rawLevel high)))

/-- POWER_GOOD_FILTERED_CHANGE (R94, R95): the new level has been stable for 1 ms; a falling acts on each assigned
domain. -/
def execPowerGoodFilteredChange (input : Fin 4) (s : State) : Host.Outcome State Fault Refusal :=
  finishEvent s <|
    match (s.pg.get input).progress with
    | some _ =>
      let t := s.withPg (s.pg.set input (s.pg.get input).change)
      if (s.pg.get input).level then finishFaulted t (t.powerGoodFalling input) else t
    | none => s

end Sys2Proof.Machine
end

