-- ==== Sys2Proof/Machine/Inputs.lean ====
section
/-! DEFINITION. The external event inputs (R99, R154 to R158). -/
namespace Sys2Proof.Machine

/-- The edge selection selects an edge, rising or falling (R155). -/
def EdgeSelect.selects : EdgeSelect → Bool → Bool
  | .off, _ => false
  | .rising, up => up
  | .falling, up => !up
  | .both, _ => true

/-- A set of domains carried in a byte holds a domain: bit d for domain d (R155). -/
def inDomainSet (set : Byte) (d : DomainId) : Bool := set.getLsbD d.val

/-- External input `i` replaced. -/
def State.setInput (s : State) (i : Fin 4) (x : ExtInput) : State :=
  s.withEvents { s.events with inputs := s.events.inputs.set i x }

/-- The actions of a selected edge on one domain: activity if the activity set names it, then the wake action if the
wake set does (R99, R156). -/
def State.edgeActs (s : State) (c : ExtConfig) (d : DomainId) : State :=
  let t := if inDomainSet c.activity d then s.activity d else s
  if inDomainSet c.wake d then t.wakeAction d else t

/-- A selected edge: the edge-seen mark, EXT_INPUT if raise event is yes, and the domain actions (R156). -/
def State.selectedEdge (s : State) (i : Fin 4) : State :=
  let x := s.events.inputs.get i
  let t := s.setInput i { x with seen := true }
  let u := if x.config.raise then t.raise .extInput else t
  allDomains.foldl (fun v d => v.edgeActs x.config d) u

/-- EXT_INPUT_CHANGE (R154): the raw level of an external input changes. -/
def execExtInputChange (i : Fin 4) (high : Bool) (s : State) : Host.Outcome State Fault Refusal :=
  finishEvent s <|
    s.setInput i { s.events.inputs.get i with filter := (s.events.inputs.get i).filter.rawLevel high }

/-- FILTERED_CHANGE (R154, R156): the new level has been stable for 1 ms; the filtered level changes, and an edge the
configuration selects acts. -/
def execFilteredChange (i : Fin 4) (s : State) : Host.Outcome State Fault Refusal :=
  finishEvent s <|
    let x := s.events.inputs.get i
    match x.filter.progress with
    | some _ =>
      let t := s.setInput i { x with filter := x.filter.change }
      if x.config.edge.selects (!x.filter.level) then t.selectedEdge i else t
    | none => s

end Sys2Proof.Machine
end

