-- ==== Sys2Proof/Machine/Requests.lean ====
section
/-! DEFINITION. The window match and admission to the request table (R36 to R42, R57 to R68), and the park timer
(R50). -/
namespace Sys2Proof.Machine

/-! ## Covering and the match (R59 to R64) -/

/-- The target lies in the window's set: equal to the base in every bit where the mask holds 0 (R59). A target of
0x80 or above lies in no set. -/
def Window.coversTarget (w : Window) (target : Byte) : Bool :=
  target.toNat ≤ 0x7F && ((target.setWidth 7 ^^^ w.targetBase) &&& ~~~w.targetMask) == 0

/-- The first location of the window's block: the base with its low bits taken as 0 (R60). -/
def Window.firstLocation (w : Window) : Nat := w.locationBase.toNat / 2 ^ w.sizeCode.val * 2 ^ w.sizeCode.val

/-- The last location of the window's block (R60). -/
def Window.lastLocation (w : Window) : Nat := w.firstLocation + 2 ^ w.sizeCode.val - 1

/-- The last location of a request's range; a PROBE's range is its location alone (R61). -/
def Command.lastLocation (c : Command) : Nat := c.location.toNat + (c.length.toNat - 1)

/-- The window covers the request (R61). -/
def Window.covers (w : Window) (c : Command) : Bool :=
  w.valid && w.coversTarget c.target && w.firstLocation ≤ c.location.toNat && c.lastLocation ≤ w.lastLocation

/-- The window permits the operation (R63). -/
def Window.permits (w : Window) (op : Byte) : Bool :=
  if op = opRead then w.permitsRead
  else if op = opWrite then w.permitsWrite
  else if op = opProbe then w.permitsProbe
  else false

/-- The matched window: the lowest index whose window covers the request (R62). -/
def State.matchedWindow (s : State) (c : Command) : Option (Fin 32) :=
  (List.finRange 32).find? fun i => (s.windows.get i).covers c

/-- A match counts in the window's hit counter and sets WINDOW_HIT for a window with the event flag (R58, R64). -/
def State.countHit (s : State) (i : Fin 32) : State :=
  let t := s.withHits (s.hits.set i (satInc (s.hits.get i)))
  if (s.windows.get i).event then t.raise .windowHit else t

/-- The snapshot a permitting match gives (R41, R65). -/
def Window.snapshot (w : Window) (i : Fin 32) : Snapshot :=
  { window := i, domain := w.domain, cls := w.cls, shadow := w.shadow }

/-! ## Making entries -/

/-- A new entry at the end of the arrival order (R37). -/
def State.addEntry (s : State) (tag : Byte) (c : Command) (snap : Option Snapshot) (x : EntryState) : State :=
  s.withEntries (s.entries ++ [{ tag := tag, cmd := c, snapshot := snap, attempts := 0, state := x }])

/-- A new entry made directly in DONE, which enters the reply queue (R39, R41 to R43). -/
def State.addDone (s : State) (tag : Byte) (c : Command) (snap : Option Snapshot) (status : Status) : State :=
  (s.addEntry tag c snap (.done status [])).withReplyQueue (s.replyQueue ++ [tag])

/-- The park timer at parking: the park limit in milliseconds (R48). -/
def State.parkTime (s : State) : Nat := tens s.parkLimit

/-- An arrival for domain `d` (R42, R79): the verdict makes the entry, the effect acts on the domain. -/
def State.arrive (s : State) (tag : Byte) (c : Command) (snap : Snapshot) (d : DomainId) : State :=
  let t := s.arrivalEffect snap.cls d
  match arrivalVerdict snap.cls (s.dom d) with
  | .queued => t.addEntry tag c (some snap) .queued
  | .parked => t.addEntry tag c (some snap) (.parked s.parkTime)
  | .domainOff => t.addDone tag c (some snap) .domainOff
  | .domainFault => t.addDone tag c (some snap) .domainFault

/-- A forwarded request: the window match and what follows from it (R41, R62 to R65). -/
def State.forward (s : State) (tag : Byte) (c : Command) : State :=
  match s.matchedWindow c with
  | none => s.addDone tag c none .noWindow
  | some i =>
    let t := s.countHit i
    if (s.windows.get i).permits c.op then
      match (s.windows.get i).domain with
      | none => t.addEntry tag c (some ((s.windows.get i).snapshot i)) .queued
      | some d => t.arrive tag c ((s.windows.get i).snapshot i) d
    else t.addDone tag c none .denied

/-- A refusal goes to the refusal slot when it is empty; otherwise it is an overrun (R26, R27). -/
def State.refuseFrame (s : State) (tag : Byte) (cause : RefusalCause) : State :=
  match s.uport.slot with
  | none => s.withUport { s.uport with slot := some { tag := tag, cause := cause } }
  | some _ =>
    (s.withUport { s.uport with
      counters := { s.uport.counters with overrun := satInc s.uport.counters.overrun } }).raise .overrun

/-- Admission of a delivered frame in its five steps (R38 to R41). -/
def State.admission (s : State) (tag : Byte) (c : Command) : State :=
  if Config.requestEntries ≤ s.entries.length then s.refuseFrame tag .busy
  else if s.entries.any (·.tag == tag) then s.refuseFrame tag .tagConflict
  else if malformed c then s.addDone tag c none .badRequest
  else if c.target = s.mgmtAddress then s.addEntry tag c none .waitingLocal
  else s.forward tag c

/-! ## The park timer -/

/-- PARK_TIMER_EXPIRY (R50): the parked entry with this tag becomes DONE with RETRY and PARK_EXPIRED is set. -/
def execParkTimerExpiry (tag : Byte) (s : State) : Host.Outcome State Fault Refusal :=
  finishEvent s <|
    match s.entry? tag with
    | some e => if e.state.isParked then (s.finishEntry tag .retry []).raise .parkExpired else s
    | none => s

end Sys2Proof.Machine
end

