-- ==== Sys2Proof/Machine/Upstream.lean ====
section
/-! DEFINITION. The U-port: its receiver, its transmitter, the break, and the edges of both lines (R4 to R9, R18 to
R35). -/
namespace Sys2Proof.Machine

/-! ## Lines -/

/-- A start edge: a line at mark goes to space and the idle period in progress ends (R6). A line already at space has
no start edge. -/
def LineState.startEdge : LineState → LineState
  | .mark _ => .space
  | .space => .space
  | .held => .held
  | .broken => .broken
  | .unseen => .unseen

/-- The line returns to mark after a space that was not a break: an idle period begins (R5, R6). The return after a
break is BREAK_END. -/
def LineState.returnToMark : LineState → LineState
  | .mark idle => .mark idle
  | .space => .mark 0
  | .held => .mark 0
  | .broken => .broken
  | .unseen => .mark 0

/-- The receiver takes a character: the line has been seen at mark since the last space that ended none (R4, R5). -/
def LineState.takesCharacter : LineState → Bool
  | .mark _ | .space => true
  | .held | .broken | .unseen => false

/-- The line is at mark, so an idle period is in progress (R6). -/
def LineState.isIdle : LineState → Bool
  | .mark _ => true
  | .space | .held | .broken | .unseen => false

/-- The line after a character: an idle period begins at the end of its last stop bit (R6), unless a framing error
leaves the line at space (R5). -/
def LineState.afterCharacter : CharMark → LineState
  | .good => .mark 0
  | .parity => .mark 0
  | .framing .mark => .mark 0
  | .framing .space => .held

/-- START_EDGE (R4, R6). -/
def execStartEdge (port : Port) (s : State) : Host.Outcome State Fault Refusal :=
  finishEvent s <|
    match port with
    | .urx => s.withUport { s.uport with line := s.uport.line.startEdge }
    | .sdl => s.withSport { s.sport with line := s.sport.line.startEdge }

/-- RETURN_TO_MARK (R5, R6). -/
def execReturnToMark (port : Port) (s : State) : Host.Outcome State Fault Refusal :=
  finishEvent s <|
    match port with
    | .urx => s.withUport { s.uport with line := s.uport.line.returnToMark }
    | .sdl => s.withSport { s.sport with line := s.sport.line.returnToMark }

/-! ## The receiver -/

/-- The receiver is assembling a frame: HEADER, PAYLOAD or CHECK (R7). -/
def RxState.inFrame : RxState → Bool
  | .header | .payload | .check => true
  | .hunt | .discard => false

/-- The receiver moved to a state with the frame under assembly empty. -/
def UPort.toState (u : UPort) (x : RxState) : UPort := { u with rx := x, asm := .empty }

/-- A stray character (R18). -/
def UCounters.addStray (c : UCounters) : UCounters := { c with stray := satInc c.stray }
/-- A character with a parity error in a frame (R21). -/
def UCounters.addParity (c : UCounters) : UCounters := { c with parity := satInc c.parity }
/-- A character with a framing error in a frame (R21). -/
def UCounters.addFraming (c : UCounters) : UCounters := { c with framing := satInc c.framing }
/-- A FORMAT discard (R23). -/
def UCounters.addFormat (c : UCounters) : UCounters := { c with formatCount := satInc c.formatCount }
/-- A check failure (R20). -/
def UCounters.addCheck (c : UCounters) : UCounters := { c with check := satInc c.check }
/-- A gap expiry (R22). -/
def UCounters.addGap (c : UCounters) : UCounters := { c with gap := satInc c.gap }
/-- A delivered frame (R25). -/
def UCounters.addFrame (c : UCounters) : UCounters := { c with frames := satInc c.frames }
/-- A break (R33). -/
def UCounters.addBreak (c : UCounters) : UCounters := { c with breaks := satInc c.breaks }
/-- A reply or refusal sent (R29, R30). -/
def UCounters.addReply (c : UCounters) : UCounters := { c with replies := satInc c.replies }
/-- A NOTICE sent (R31). -/
def UCounters.addNotice (c : UCounters) : UCounters := { c with notices := satInc c.notices }

/-- A frame discarded: its cause counted, LINK_ERROR set, the receiver in `next` (R20 to R23). -/
def State.discardFrame (s : State) (count : UCounters → UCounters) (next : RxState) : State :=
  (s.withUport { s.uport.toState next with counters := count s.uport.counters }).raise .linkError

/-- A character in HUNT (R18). -/
def State.huntCharacter (s : State) (data : Byte) (mark : CharMark) : State :=
  if mark = .good ∧ data = leadRequest then s.withUport (s.uport.toState .header)
  else s.withUport { s.uport with counters := s.uport.counters.addStray }

/-- A header character taken into the frame under assembly (R19). -/
def Assembly.takeHeader (a : Assembly) (data : Byte) : Assembly :=
  { a with header := a.header ++ [data], sum := a.sum + data }

/-- A payload character taken into the frame under assembly (R20). -/
def Assembly.takePayload (a : Assembly) (data : Byte) : Assembly :=
  { a with payload := a.payload ++ [data], sum := a.sum + data }

/-- The payload count the header under assembly gives (R12). -/
def Assembly.payloadCount (a : Assembly) : Nat := requestPayloadCount (a.header.getD 1 0) (a.header.getD 5 0)

/-- The receiver after a header character: the header is judged when it holds six (R19, R23). -/
def State.afterHeader (s : State) (asm : Assembly) : State :=
  if asm.header.length < 6 then s.withUport { s.uport with asm := asm }
  else if headerUnusable asm.header then s.discardFrame .addFormat .discard
  else if asm.payloadCount = 0 then s.withUport { s.uport with asm := asm, rx := .check }
  else s.withUport { s.uport with asm := asm, rx := .payload }

/-- A good character in HEADER (R19). -/
def State.headerCharacter (s : State) (data : Byte) : State := s.afterHeader (s.uport.asm.takeHeader data)

/-- The receiver after a payload character: it enters CHECK when it holds as many as the length gives (R20). -/
def State.afterPayload (s : State) (asm : Assembly) : State :=
  if asm.payload.length < asm.payloadCount then s.withUport { s.uport with asm := asm }
  else s.withUport { s.uport with asm := asm, rx := .check }

/-- A good character in PAYLOAD (R20). -/
def State.payloadCharacter (s : State) (data : Byte) : State := s.afterPayload (s.uport.asm.takePayload data)

/-- A good character in CHECK (R20, R25): a check-valid frame is counted and delivered to admission. -/
def State.checkCharacter (s : State) (data : Byte) : State :=
  if s.uport.asm.sum + data = 0 then
    (s.withUport { s.uport.toState .hunt with counters := s.uport.counters.addFrame }).admission
      (s.uport.asm.header.getD 0 0) (headerCommand s.uport.asm.header s.uport.asm.payload)
  else s.discardFrame .addCheck .hunt

/-- A good character inside a frame. -/
def State.frameCharacter (s : State) (data : Byte) : State :=
  match s.uport.rx with
  | .header => s.headerCharacter data
  | .payload => s.payloadCharacter data
  | .check => s.checkCharacter data
  | .hunt | .discard => s

/-- The receiver takes a character by its state (R18 to R24). -/
def State.receive (s : State) (data : Byte) (mark : CharMark) : State :=
  match s.uport.rx with
  | .hunt => s.huntCharacter data mark
  | .discard => s
  | .header | .payload | .check =>
    match mark with
    | .good => s.frameCharacter data
    | .parity => s.discardFrame .addParity .discard
    | .framing _ => s.discardFrame .addFraming .discard

/-- URX_CHARACTER_RECEIVED (R5, R18 to R25). -/
def execUrxCharacterReceived (data : Byte) (mark : CharMark) (s : State) : Host.Outcome State Fault Refusal :=
  finishEvent s <|
    if s.uport.line.takesCharacter then
      (s.withUport { s.uport with line := .afterCharacter mark }).receive data mark
    else s

/-- UPORT_GAP_EXPIRY (R7, R22). -/
def execUportGapExpiry (s : State) : Host.Outcome State Fault Refusal :=
  finishEvent s <| if s.uport.rx.inFrame && s.uport.line.isIdle then s.discardFrame .addGap .hunt else s

/-- DISCARD_END (R24): URX has been idle for 8 character times. -/
def execDiscardEnd (s : State) : Host.Outcome State Fault Refusal :=
  finishEvent s <|
    if s.uport.rx = .discard ∧ s.uport.line.isIdle = true then s.withUport (s.uport.toState .hunt) else s

/-! ## The transmitter -/

/-- The transmitter begins a frame (R28). -/
def State.send (s : State) (source : TxSource) (frame : List Byte) : State :=
  s.withUport { s.uport with tx := some { source := source, frame := frame, elapsed := 0 } }

/-- The reply frame of an entry, which it has once it is DONE (R15, R30, R43). -/
def Entry.reply (e : Entry) : Option (List Byte) :=
  match e.state with
  | .done status payload => some (replyFrame e.tag status payload)
  | .waitingLocal | .queued | .parked _ | .active _ => none

/-- The transmitter's choice, where it is FREE: the refusal, else a NOTICE, else the head of the reply queue (R28 to
R31). -/
def State.transmitterChoice (s : State) : State :=
  match s.uport.tx with
  | some _ => s
  | none =>
    match s.uport.slot with
    | some r => s.send .refusal (refusalFrame r)
    | none =>
      if s.uport.noticePending then
        (s.withUport { s.uport with noticePending := false }).send .notice (noticeFrame s.events.live)
      else
        match s.replyQueue with
        | [] => s
        | tag :: rest =>
          match (s.entry? tag).bind Entry.reply with
          | some frame => (s.withReplyQueue rest).send (.reply tag) frame
          | none => s

/-- TRANSMITTER_CHOICE (R28). -/
def execTransmitterChoice (s : State) : Host.Outcome State Fault Refusal := finishEvent s s.transmitterChoice

/-- What the transmitter is sending, if anything. -/
def UPort.sending (u : UPort) : Option TxSource := u.tx.map (·.source)

/-- REFUSAL_SENT (R29): the slot is emptied, REPLIES counted, the transmitter FREE, and the next choice made. -/
def execRefusalSent (s : State) : Host.Outcome State Fault Refusal :=
  finishEvent s <|
    if s.uport.sending = some .refusal then
      (s.withUport { s.uport with tx := none, slot := none, counters := s.uport.counters.addReply }).transmitterChoice
    else s

/-- A pending U-port format is taken up when the reply that bears its tag has been sent (R9). -/
def UPort.takeUpAfter (u : UPort) (tag : Byte) : UPort :=
  match u.pendingFormat with
  | some p => if p.tag = tag then { u with inUse := p.format, pendingFormat := none } else u
  | none => u

/-- A pending U-port format is taken up at a break (R9, R33). -/
def UPort.takeUpAtBreak (u : UPort) : UPort :=
  match u.pendingFormat with
  | some p => { u with inUse := p.format, pendingFormat := none }
  | none => u

/-- The entry with this tag is freed; those younger move up (R30, R37, R44). -/
def State.freeEntry (s : State) (tag : Byte) : State := s.withEntries (s.entries.filter (·.tag != tag))

/-- The last character of the reply to the entry with this tag has gone (R9, R30). -/
def State.replyGone (s : State) (tag : Byte) : State :=
  ((s.withUport
      (UPort.takeUpAfter { s.uport with tx := none, counters := s.uport.counters.addReply } tag)).freeEntry
    tag).transmitterChoice

/-- REPLY_SENT (R30): the entry and its tag are freed, REPLIES counted, a pending format taken up, the transmitter
FREE, and the next choice made. -/
def execReplySent (s : State) : Host.Outcome State Fault Refusal :=
  finishEvent s <|
    match s.uport.sending with
    | some (.reply tag) => s.replyGone tag
    | some .refusal | some .notice | none => s

/-- NOTICE_SENT (R31): NOTICES counted, the transmitter FREE, and the next choice made. -/
def execNoticeSent (s : State) : Host.Outcome State Fault Refusal :=
  finishEvent s <|
    if s.uport.sending = some .notice then
      (s.withUport { s.uport with tx := none, counters := s.uport.counters.addNotice }).transmitterChoice
    else s

/-! ## Break (R32 to R34) -/

/-- A break may be taken: a character has completed with a framing error and left the line at space, and no break has
been taken in that space (R8 steps 1 to 3, R32; log entry 5). R8 and R32 speak of a space that began with the start edge;
that a space which began inside the character, after a data bit at mark, may go on to be a break too is the model's choice
(log entry 22). -/
def LineState.breakMayCome : LineState → Bool
  | .held => true
  | .mark _ | .space | .broken | .unseen => false

/-- The U-port's part of a break (R33, steps 1 to 6). -/
def UPort.takeBreak (u : UPort) : UPort :=
  { UPort.takeUpAtBreak (u.toState .hunt) with
    line := .broken, tx := none, slot := none, noticePending := false, counters := u.counters.addBreak }

/-- An ENTRY attempt in progress becomes an ORPHAN (R34, R140). -/
def SPort.orphan (p : SPort) : SPort :=
  match p.attempt with
  | some a =>
    match a.exchange.originator with
    | .entry _ => { p with attempt := some { a with exchange := { a.exchange with originator := .orphan } } }
    | .orphan | .check _ | .replay _ _ => p
  | none => p

/-- Every DRAINING domain whose work in progress has become empty powers down (R52, R83). -/
def State.drainAll (s : State) : State := allDomains.foldl (fun t d => t.drainCheck d) s

/-- A break: the U-port cleared, LINK_ERROR set, every entry discarded, an ENTRY exchange orphaned, and the drains whose
work this empties carried out (R33, R34, R52). -/
def State.takeBreak (s : State) : State :=
  ((((s.withUport s.uport.takeBreak).raise .linkError).withEntries []).withReplyQueue []
    |>.withSport s.sport.orphan).drainAll

/-- BREAK (R8, R32 to R34). -/
def execBreak (s : State) : Host.Outcome State Fault Refusal :=
  finishEvent s <| if s.uport.line.breakMayCome then s.takeBreak else s

/-- BREAK_END (R8, R32): URX returns to mark after a break; the receiver takes the next start edge in HUNT. -/
def execBreakEnd (s : State) : Host.Outcome State Fault Refusal :=
  finishEvent s <|
    if s.uport.line = .broken then s.withUport { s.uport.toState .hunt with line := .mark 0 } else s

end Sys2Proof.Machine
end

