-- ==== Sys2Proof/Machine/Segment.lean ====
section
/-! DEFINITION. The segment port: candidates, the arbiter, the phases of an attempt, and the delivery of outcomes (R45
to R47, R125 to R144). -/
namespace Sys2Proof.Machine

/-! ## Eligibility and candidates (R45, R128) -/

/-- Two entries have the same target and the same snapshot domain, NONE counting as the same domain as NONE (R45). -/
def sameDevice (a b : Entry) : Bool :=
  a.cmd.target == b.cmd.target && a.snapshot.isSome && b.snapshot.isSome && a.domain? == b.domain?

/-- An earlier entry holds a later one back: same target and domain, and QUEUED, ACTIVE or PARKED (R45). -/
def holdsBack (earlier later : Entry) : Bool :=
  sameDevice earlier later && (earlier.state.isQueued || earlier.state.isActive || earlier.state.isParked)

/-- The domain of an entry lets it onto the segment: NONE, or in service (R45). -/
def State.domainServes (s : State) (d : Option DomainId) : Bool :=
  match d with
  | some d => (s.dom d).state.inService
  | none => true

/-- A QUEUED entry is eligible, given the entries ahead of it in the arrival order (R45). -/
def State.eligible (s : State) (ahead : List Entry) (e : Entry) : Bool :=
  e.state.isQueued && e.snapshot.isSome && s.domainServes e.domain? && !ahead.any (holdsBack · e)

/-- The eligible entry earliest in the arrival order (R45, R129). -/
def State.oldestEligible (s : State) (ahead : List Entry) : List Entry → Option Entry
  | [] => none
  | e :: rest => if s.eligible ahead e then some e else s.oldestEligible (ahead ++ [e]) rest

/-- The forwarding candidate that would win (R128, R129). -/
def State.forwardCandidate (s : State) : Option Entry := s.oldestEligible [] s.entries

/-- The command of a check probe (R88, R130). -/
def probeCommand (target : Byte) : Command :=
  { op := opProbe, target := target, location := 0, length := 0, payload := [] }

/-- The command of a replay write (R114). -/
def replayCommand (x : ShadowEntry) : Command :=
  { op := opWrite, target := x.key.target, location := x.key.location, length := BitVec.ofNat 8 x.data.length,
    payload := x.data }

/-- A piece of maintenance work: its originator, its command and the number of its next attempt. -/
structure Maintenance where
  originator : Originator
  cmd        : Command
  attempt    : Nat
  deriving DecidableEq, Repr

/-- The attempt number of a domain's work: 1 where it has not been granted, its retry note's where it waits for a
retry, and none while it is in flight (R128, R138). -/
def nextAttempt (granted : Bool) (note : Option RetryNote) : Option Nat :=
  if granted then note.map (·.attempt) else some 1

/-- The maintenance candidate of a domain, if it has one (R88, R114, R128). -/
def State.maintenanceOf (s : State) (d : DomainId) : Option Maintenance :=
  match (s.dom d).state with
  | .checking target granted =>
    (nextAttempt granted (s.sport.notes.get d)).map fun n =>
      { originator := .check d, cmd := probeCommand target, attempt := n }
  | .restoring key granted =>
    match nextAttempt granted (s.sport.notes.get d), entryAt (s.shadow.list d) key with
    | some n, some x => some { originator := .replay d key, cmd := replayCommand x, attempt := n }
    | _, _ => none
  | .off | .cooldown _ | .settling _ | .on _ | .warning _ | .draining | .fault => none

/-- The maintenance candidate that would win: the lowest-numbered domain's (R129). -/
def State.maintenanceCandidate (s : State) : Option (DomainId × Maintenance) :=
  allDomains.findSome? fun d => (s.maintenanceOf d).map fun m => (d, m)

/-! ## The grant (R129 to R131) -/

/-- The recovery gap read at a grant: the domain's, or the default gap for NONE (R130). -/
def State.gapFor (s : State) (d : Option DomainId) : Nat :=
  match d with
  | some d => (s.dom d).config.recoveryGap.toNat
  | none => s.sport.defaultGap.toNat

/-- The phase an attempt begins in: GAP, or SEND at once when the idle period in progress has already lasted the
recovery gap in the attempt's format (R131). -/
def LineState.firstPhase (l : LineState) (f : Format) (gap : Nat) : Phase :=
  match l with
  | .mark idle => if f.charCycles gap ≤ idle then .send else .gap
  | .space | .held | .broken | .unseen => .gap

/-- An exchange is granted: the record is filled, the format setting and the answer timeout are taken up, the
alternation flag names the class not granted (R129 to R131). In SEND the PS416 drives the line. -/
def State.beginAttempt (s : State) (x : Exchange) (other : WorkClass) : State :=
  let phase := s.sport.line.firstPhase x.format x.gap
  s.withSport { s.sport with
    attempt := some { phase := phase, exchange := x }
    inUse := s.sport.setting
    prefer := other
    line := if phase = .send then .space else s.sport.line }

/-- The exchange record a grant fills (R125, R130). -/
def State.newExchange (s : State) (o : Originator) (c : Command) (d : Option DomainId) (shadow : Bool) (n : Nat) :
    Exchange :=
  { originator := o, cmd := c, domain := d, shadow := shadow, gap := s.gapFor d, attempt := n,
    format := s.sport.setting, answerTimeout := s.sport.answerTimeout.toNat, answer := .empty }

/-- A forwarding grant: the entry becomes ACTIVE (R46, R130). -/
def State.grantEntry (s : State) (e : Entry) : State :=
  (s.setEntryState e.tag (.active false)).beginAttempt
    (s.newExchange (.entry e.tag) e.cmd e.domain? ((e.snapshot.map (·.shadow)).getD false) (e.attempts + 1))
    .maintenance

/-- A domain's work is marked granted (R114, R128). -/
def DomState.markGranted : DomState → DomState
  | .checking target _ => .checking target true
  | .restoring key _ => .restoring key true
  | .off => .off
  | .cooldown t => .cooldown t
  | .settling t => .settling t
  | .on t => .on t
  | .warning t => .warning t
  | .draining => .draining
  | .fault => .fault

/-- A maintenance grant: the domain's work is in flight and its retry note is taken (R130, R138). -/
def State.grantMaintenance (s : State) (d : DomainId) (m : Maintenance) : State :=
  ((s.setDomState d (s.dom d).state.markGranted).clearNote d).beginAttempt
    (s.newExchange m.originator m.cmd (some d) false m.attempt) .forwarding

/-- The arbiter's choice: the class the alternation flag names where both have candidates, else the one that has
(R129). -/
def State.arbitrate (s : State) : State :=
  match s.maintenanceCandidate, s.forwardCandidate, s.sport.prefer with
  | some (d, m), some _, .maintenance => s.grantMaintenance d m
  | some _, some e, .forwarding => s.grantEntry e
  | some (d, m), none, _ => s.grantMaintenance d m
  | none, some e, _ => s.grantEntry e
  | none, none, _ => s

/-- GRANT (R129, R130): the arbiter chooses where the S-port is FREE and a candidate is present. The choice is this
command, taken on the candidates as they then stand; that other commands may come between the moment the S-port is FREE
with a candidate and this choice is the model's choice (log entry 23). -/
def execGrant (s : State) : Host.Outcome State Fault Refusal :=
  finishEvent s <|
    match s.sport.attempt with
    | none => s.arbitrate
    | some _ => s

/-! ## Outcomes (R47, R135 to R142) -/

/-- The outcome of an attempt (R135). An OK outcome carries the answer's payload. -/
inductive AttemptOutcome where
  | ok (payload : List Byte)
  | targetNak
  | noResponse
  | lineFault
  | answerError
  deriving DecidableEq, Repr

/-- Each attempt is counted once, at its end (R141). -/
def SCounters.count (c : SCounters) : AttemptOutcome → SCounters
  | .ok _ => { c with exchangesOk := satInc c.exchangesOk }
  | .targetNak => { c with naks := satInc c.naks }
  | .noResponse => { c with timeouts := satInc c.timeouts }
  | .lineFault => { c with lineFaults := satInc c.lineFaults }
  | .answerError => { c with answerErrors := satInc c.answerErrors }

/-- The retryable failures (R136). -/
def AttemptOutcome.retryable : AttemptOutcome → Bool
  | .noResponse | .lineFault | .answerError => true
  | .ok _ | .targetNak => false

/-- The outcome is OK. -/
def AttemptOutcome.isOk : AttemptOutcome → Bool
  | .ok _ => true
  | .targetNak | .noResponse | .lineFault | .answerError => false

/-- The reply status of an entry finished with an outcome (R47, cases 2 and 5). -/
def AttemptOutcome.status : AttemptOutcome → Status
  | .ok _ => .ok
  | .targetNak => .targetNak
  | .noResponse => .noResponse
  | .lineFault => .lineFault
  | .answerError => .answerError

/-- The reply payload of an entry finished with an outcome: the data read by a READ answered OK (R47). -/
def replyPayload (c : Command) : AttemptOutcome → List Byte
  | .ok payload => if c.op = opRead then payload else []
  | .targetNak | .noResponse | .lineFault | .answerError => []

/-- The offer for capture that an outcome makes: an OK outcome alone (R106). -/
def State.offerOutcome (s : State) (x : Exchange) (o : AttemptOutcome) : State :=
  if o.isOk then s.offerCapture x.cmd x.domain x.shadow else s

/-- The drain a finished entry or orphan may complete for its domain, where it has one (R52, R83). -/
def State.drainDomain (s : State) (d : Option DomainId) : State :=
  match d with
  | some d => s.drainCheck d
  | none => s

/-- A retried entry returns to QUEUED with its attempt count raised; its place stays (R47, case 3). -/
def State.requeue (s : State) (tag : Byte) : State :=
  s.withEntries (s.entries.map fun e =>
    if e.tag = tag then { e with state := .queued, attempts := e.attempts + 1 } else e)

/-- SEGMENT_ERROR is set when an entry is finished under case 5 with NO_RESPONSE, LINE_FAULT or ANSWER_ERROR (R142). -/
def State.segmentError (s : State) (o : AttemptOutcome) : State := if o.retryable then s.raise .segmentError else s

/-- An ACTIVE entry takes the outcome, in the first case of R47 that applies. -/
def State.entryOutcome (s : State) (e : Entry) (abort : Bool) (o : AttemptOutcome) : State :=
  if abort then s.finishEntry e.tag .aborted []
  else if o.isOk then s.finishEntry e.tag .ok (replyPayload e.cmd o)
  else if o.retryable && e.attempts < s.sport.retryCount.toNat then
    if s.domainServes e.domain? then s.requeue e.tag else s.finishEntry e.tag .domainFault []
  else (s.finishEntry e.tag o.status []).segmentError o

/-- Delivery to an entry (R47, R137): the outcome, the offer for capture, and the drain its domain may now complete. -/
def State.deliverEntry (s : State) (x : Exchange) (tag : Byte) (o : AttemptOutcome) : State :=
  match s.entry? tag with
  | some e =>
    match e.state with
    | .active abort => ((s.entryOutcome e abort o).offerOutcome x o).drainDomain e.domain?
    | .waitingLocal | .queued | .parked _ | .done _ _ => s
  | none => s

/-- The end of an orphan's attempt (R34, R139). -/
def State.deliverOrphan (s : State) (x : Exchange) (o : AttemptOutcome) : State :=
  (s.offerOutcome x o).drainDomain x.domain

/-- A retry note for the next attempt of a domain's work (R138, case 2). -/
def State.setNote (s : State) (d : DomainId) (w : MaintenanceWork) (n : Nat) : State :=
  s.withSport { s.sport with notes := s.sport.notes.set d (some { work := w, attempt := n }) }

/-- A failed maintenance attempt is retried: the failure is retryable and the attempt number is at most the retry count
(R136, R138). -/
def State.maintenanceRetries (s : State) (x : Exchange) (o : AttemptOutcome) : Bool :=
  o.retryable && x.attempt ≤ s.sport.retryCount.toNat

/-- Delivery of a check probe's outcome (R88, R93, R138). -/
def State.deliverCheck (s : State) (x : Exchange) (d : DomainId) (o : AttemptOutcome) : State :=
  match (s.dom d).state with
  | .checking _ true =>
    if s.maintenanceRetries x o then s.setNote d .probe (x.attempt + 1)
    else if o.isOk then (s.clearNote d).enterRestoring d
    else finishFaulted s (s.attemptFails d .checkFailed)
  | .checking _ false | .off | .cooldown _ | .settling _ | .restoring _ _ | .on _ | .warning _ | .draining | .fault => s

/-- The replay position advances past the entry of key `k`: to the next entry, whose write is due, or past the tail,
which completes the restore (R115). -/
def State.advanceReplay (s : State) (d : DomainId) (k : Key) : State :=
  match follower k (s.shadow.list d) with
  | some next => s.setDomState d (.restoring next false)
  | none => s.reachOn d

/-- A final outcome of a replay write (R115, R116). -/
def State.replayOutcome (s : State) (d : DomainId) (k : Key) (o : AttemptOutcome) : State :=
  if o.isOk then s.advanceReplay d k
  else
    match (s.dom d).config.policy with
    | .strict => finishFaulted s (s.attemptFails d .restoreFailed)
    | .lenient => (s.raise .restoreSkip).advanceReplay d k

/-- Delivery of a replay write's outcome (R115 to R117, R138). -/
def State.deliverReplay (s : State) (x : Exchange) (d : DomainId) (o : AttemptOutcome) : State :=
  match (s.dom d).state with
  | .restoring k true =>
    if s.maintenanceRetries x o then s.setNote d (.replay k) (x.attempt + 1)
    else (s.clearNote d).replayOutcome d k o
  | .restoring _ false | .off | .cooldown _ | .settling _ | .checking _ _ | .on _ | .warning _ | .draining | .fault => s

/-- The outcome goes to the originator the record names (R135, R137 to R139). -/
def State.deliver (s : State) (x : Exchange) (o : AttemptOutcome) : State :=
  match x.originator with
  | .entry tag => s.deliverEntry x tag o
  | .orphan => s.deliverOrphan x o
  | .check d => s.deliverCheck x d o
  | .replay d _ => s.deliverReplay x d o

/-- The end of an attempt: the outcome is counted, the record emptied with the S-port FREE, and the outcome delivered
(R135). -/
def State.attemptEnds (s : State) (x : Exchange) (o : AttemptOutcome) : State :=
  (s.withSport { s.sport with attempt := none, counters := s.sport.counters.count o }).deliver x o

/-- The exchange in progress where the S-port is in a given phase. -/
def SPort.inPhase (p : SPort) (phase : Phase) : Option Exchange :=
  match p.attempt with
  | some a => if a.phase = phase then some a.exchange else none
  | none => none

/-! ## GAP and SEND (R131, R132) -/

/-- The S-port moved to a phase of the attempt in progress. -/
def State.enterPhase (s : State) (phase : Phase) (x : Exchange) (line : LineState) : State :=
  s.withSport { s.sport with attempt := some { phase := phase, exchange := x }, line := line }

/-- RECOVERY_GAP_REACHED (R131): SDL idle for the recovery gap, and the S-port enters SEND and drives the line. -/
def execRecoveryGapReached (s : State) : Host.Outcome State Fault Refusal :=
  finishEvent s <|
    match s.sport.inPhase .gap with
    | some x => if s.sport.line.isIdle then s.enterPhase .send x .space else s
    | none => s

/-- LINE_IDLE_WAIT_LIMIT (R131): 64 character times since the grant, and the attempt ends with LINE_FAULT. -/
def execLineIdleWaitLimit (s : State) : Host.Outcome State Fault Refusal :=
  finishEvent s <|
    match s.sport.inPhase .gap with
    | some x => s.attemptEnds x .lineFault
    | none => s

/-- ECHO_MISMATCH (R132): another device drives the line; SDL is released and the attempt ends with LINE_FAULT. -/
def execEchoMismatch (s : State) : Host.Outcome State Fault Refusal :=
  finishEvent s <|
    match s.sport.inPhase .send with
    | some x => (s.withSport { s.sport with line := .held }).attemptEnds x .lineFault
    | none => s

/-- COMMAND_COMPLETE (R132): the last stop bit is sent; the S-port releases the line and enters WAIT. -/
def execCommandComplete (s : State) : Host.Outcome State Fault Refusal :=
  finishEvent s <|
    match s.sport.inPhase .send with
    | some x => s.enterPhase .wait x (.mark 0)
    | none => s

/-- The command frame on SDL, while the S-port is in SEND (R10, R132). -/
def SPort.frameOnLine (p : SPort) : Option (List Byte) := (p.inPhase .send).map fun x => segmentFrame x.cmd

/-! ## WAIT and RECEIVE (R133 to R135) -/

/-- ANSWER_TIMEOUT (R133): no character of an answer has started, and the attempt ends with NO_RESPONSE. -/
def execAnswerTimeout (s : State) : Host.Outcome State Fault Refusal :=
  finishEvent s <|
    match s.sport.inPhase .wait with
    | some x => s.attemptEnds x .noResponse
    | none => s

/-- ANSWER_CHARACTER_START (R133): a start edge confirmed at the middle of its start bit; RECEIVE begins. -/
def execAnswerCharacterStart (s : State) : Host.Outcome State Fault Refusal :=
  finishEvent s <|
    match s.sport.inPhase .wait with
    | some x => if s.sport.line.takesCharacter then s.enterPhase .receive x .space else s
    | none => s

/-- Payload bytes an exchange record keeps of an answer (R125, R134). -/
def keptAnswerBytes : Nat := 32

/-- The answer with one more character taken, by its position: lead, status, length, then payload or check (R10, R12).
Payload is kept for a READ, up to 32 bytes (R125, R134). -/
def Answer.take (a : Answer) (c : Command) (data : Byte) : Answer :=
  match a.taken with
  | 0 => { a with taken := 1 }
  | 1 => { a with taken := 2, status := data, sum := a.sum + data }
  | 2 => { a with taken := 3, length := data, sum := a.sum + data }
  | n + 3 =>
    { a with
      taken := n + 4
      sum := a.sum + data
      payload :=
        if n < a.length.toNat ∧ a.payload.length < keptAnswerBytes ∧ c.op = opRead then a.payload ++ [data]
        else a.payload }

/-- The answer is complete: lead, status, length, payload and check have been taken (R12, R134). -/
def Answer.complete (a : Answer) : Bool := 3 ≤ a.taken && a.taken == a.length.toNat + 4

/-- The judgement of a complete answer (R134, R135). -/
def Answer.judge (a : Answer) (c : Command) : AttemptOutcome :=
  if a.sum ≠ 0 then .answerError
  else if a.length ≠ expectedAnswerLength c a.status then .answerError
  else if a.status = 0 then .ok a.payload
  else .targetNak

/-- The exchange record with one more character of the answer taken. -/
def Exchange.take (x : Exchange) (data : Byte) : Exchange := { x with answer := x.answer.take x.cmd data }

/-- The S-port after a character of the answer: a complete answer is judged and ends the attempt (R134, R135). -/
def State.afterAnswer (s : State) (x : Exchange) : State :=
  if x.answer.complete then s.attemptEnds x (x.answer.judge x.cmd)
  else s.withSport { s.sport with attempt := some { phase := .receive, exchange := x } }

/-- A good character of the answer: a first character other than the lead is a fault (R134). -/
def State.answerCharacter (s : State) (x : Exchange) (data : Byte) : State :=
  if x.answer.taken = 0 ∧ data ≠ leadAnswer then s.attemptEnds x .answerError else s.afterAnswer (x.take data)

/-- A character of the answer with its error mark: a marked character is a fault (R134). -/
def State.answerMarked (s : State) (x : Exchange) (data : Byte) (mark : CharMark) : State :=
  match mark with
  | .good => s.answerCharacter x data
  | .parity | .framing _ => s.attemptEnds x .answerError

/-- ANSWER_CHARACTER_RECEIVED (R134, R135). -/
def execAnswerCharacterReceived (data : Byte) (mark : CharMark) (s : State) : Host.Outcome State Fault Refusal :=
  finishEvent s <|
    match s.sport.inPhase .receive with
    | some x =>
      if s.sport.line.takesCharacter then
        (s.withSport { s.sport with line := .afterCharacter mark }).answerMarked x data mark
      else s
    | none => s

/-- ANSWER_GAP_EXPIRY (R7, R134): the gap limit is exceeded between two characters of the answer. -/
def execAnswerGapExpiry (s : State) : Host.Outcome State Fault Refusal :=
  finishEvent s <|
    match s.sport.inPhase .receive with
    | some x => if x.answer.taken ≠ 0 ∧ s.sport.line.isIdle = true then s.attemptEnds x .answerError else s
    | none => s

end Sys2Proof.Machine
end

