-- ==== Sys2Proof/Machine/Images.lean ====
section
/-! DEFINITION. The record images of the management space: how each record stands in bytes, and how bytes are read back
into a record with its owner's validation (R2, R69, R75, R155, R165 to R175). -/
namespace Sys2Proof.Machine

/-- A yes or no field as a byte. -/
def boolByte (b : Bool) : Byte := if b then 1 else 0

/-- A byte that must be 0 or 1. -/
def byteBool (b : Byte) : Option Bool := if b = 0 then some false else if b = 1 then some true else none

/-- The first byte of a window image (R169): the six marks in bits 0 to 5. -/
def Window.flags (w : Window) : Byte :=
  boolByte w.valid ||| (boolByte w.permitsRead <<< 1) ||| (boolByte w.permitsWrite <<< 2)
    ||| (boolByte w.permitsProbe <<< 3) ||| (boolByte w.shadow <<< 4) ||| (boolByte w.event <<< 5)

/-- The code of an activity class (R57). -/
def ActivityClass.code : ActivityClass → Byte
  | .passive => 0
  | .keep => 1
  | .wake => 2

/-- An activity class from its code; 3 is not accepted (R69). -/
def ActivityClass.ofCode (b : Byte) : Option ActivityClass :=
  if b = 0 then some .passive else if b = 1 then some .keep else if b = 2 then some .wake else none

/-- A domain field: 0x00..0x07, or 0xFF for NONE (R57). -/
def domainByte : Option DomainId → Byte
  | none => 0xFF
  | some d => BitVec.ofNat 8 d.val

/-- A domain field from its byte, where it is acceptable (R69). -/
def byteDomain (b : Byte) : Option (Option DomainId) :=
  if b = 0xFF then some none
  else if h : b.toNat < 8 then some (some ⟨b.toNat, h⟩)
  else none

/-- The image of a window record (R169). -/
def Window.image (w : Window) : List Byte :=
  [w.flags ||| (w.cls.code <<< 6), domainByte w.domain, w.targetBase.setWidth 8, w.targetMask.setWidth 8,
    BitVec.ofNat 8 w.sizeCode.val, hiByte w.locationBase, loByte w.locationBase, 0]

/-- A window record from its image, where every field is acceptable (R69, R169). -/
def Window.ofImage (b : List Byte) : Option Window :=
  let b0 := b.getD 0 0
  let base := b.getD 2 0
  let mask := b.getD 3 0
  let size := b.getD 4 0
  match ActivityClass.ofCode (b0 >>> 6), byteDomain (b.getD 1 0) with
  | some cls, some domain =>
    if h : base.toNat ≤ 0x7F ∧ mask.toNat ≤ 0x7F ∧ size.toNat < 17 then
      some
        { valid := b0.getLsbD 0, permitsRead := b0.getLsbD 1, permitsWrite := b0.getLsbD 2,
          permitsProbe := b0.getLsbD 3, shadow := b0.getLsbD 4, event := b0.getLsbD 5, cls := cls, domain := domain,
          targetBase := base.setWidth 7, targetMask := mask.setWidth 7, sizeCode := ⟨size.toNat, h.2.2⟩,
          locationBase := joinBytes (b.getD 5 0) (b.getD 6 0) }
    else none
  | _, _ => none

/-- The image of a domain configuration record (R170). -/
def DomainConfig.image (c : DomainConfig) : List Byte :=
  [match c.mode with | .managed => 0 | .heldMode => 1,
    boolByte c.wakeAllowed,
    match c.polarity with | .activeHigh => 0 | .activeLow => 1,
    match c.policy with | .strict => 0 | .lenient => 1,
    match c.pgInput with | none => 0 | some i => BitVec.ofNat 8 (i.val + 1),
    c.checkTarget.getD 0, c.settleTime, c.minimumOff, c.warning, c.wakeLimit, c.recoveryGap, hiByte c.idleReload,
    loByte c.idleReload, 0, 0, 0]

/-- A power-good input field from its code 0..4 (R75). -/
def bytePgInput (b : Byte) : Option (Option (Fin 4)) :=
  if b = 0 then some none
  else if h : b.toNat - 1 < 4 then some (some ⟨b.toNat - 1, h⟩)
  else none

/-- A domain configuration record from its image, where it passes R75; `mgmt` is the management address. -/
def DomainConfig.ofImage (mgmt : Byte) (b : List Byte) : Option DomainConfig :=
  let target := b.getD 5 0
  match byteBool (b.getD 0 0), byteBool (b.getD 1 0), byteBool (b.getD 2 0), byteBool (b.getD 3 0),
    bytePgInput (b.getD 4 0) with
  | some mode, some wakeAllowed, some polarity, some policy, some pgInput =>
    if target.toNat ≤ 0x7F ∧ target ≠ mgmt ∧ b.getD 6 0 ≠ 0 ∧ 1 ≤ (b.getD 9 0).toNat ∧ (b.getD 9 0).toNat ≤ 4
        ∧ 1 ≤ (b.getD 10 0).toNat ∧ (b.getD 10 0).toNat ≤ 16 then
      some
        { mode := if mode then .heldMode else .managed
          wakeAllowed := wakeAllowed
          polarity := if polarity then .activeLow else .activeHigh
          policy := if policy then .lenient else .strict
          pgInput := pgInput
          checkTarget := if target = 0 then none else some target
          settleTime := b.getD 6 0, minimumOff := b.getD 7 0, warning := b.getD 8 0, wakeLimit := b.getD 9 0,
          recoveryGap := b.getD 10 0, idleReload := joinBytes (b.getD 11 0) (b.getD 12 0) }
    else none
  | _, _, _, _, _ => none

/-- The code of a last fault cause (R171). -/
def FaultCause.code : FaultCause → Byte
  | .none => 0
  | .pgLow => 1
  | .checkFailed => 2
  | .restoreFailed => 3
  | .powerLost => 4

/-- The image of a domain status record (R77, R171). -/
def State.statusImage (s : State) (d : DomainId) : List Byte :=
  let x := s.dom d
  let idle : Half := BitVec.ofNat 16 x.state.idleRemaining
  [x.state.code, BitVec.ofNat 8 x.attempt, boolByte x.pendingWake, x.cause.code,
    boolByte (s.shadow.incomplete.get d), BitVec.ofNat 8 (s.shadow.count d), BitVec.ofNat 8 (s.parkedCount d),
    hiByte idle, loByte idle, hiByte x.wakeCount, loByte x.wakeCount, hiByte x.failedCount, loByte x.failedCount,
    0, 0, 0]

/-- The image of a format (R2, R166). -/
def Format.image (f : Format) : List Byte :=
  [match f.parity with | .none => 0 | .even => 1 | .odd => 2,
    match f.stop with | .one => 1 | .two => 2,
    hiByte (f.divisor.setWidth 16), loByte (f.divisor.setWidth 16)]

/-- A format from its image, where every field is in its range (R2, R166). -/
def Format.ofImage (b : List Byte) : Option Format :=
  let parity : Option Parity :=
    if b.getD 0 0 = 0 then some .none else if b.getD 0 0 = 1 then some .even
    else if b.getD 0 0 = 2 then some .odd else none
  let stop : Option StopBits :=
    if b.getD 1 0 = 1 then some .one else if b.getD 1 0 = 2 then some .two else none
  let divisor := joinBytes (b.getD 2 0) (b.getD 3 0)
  match parity, stop with
  | some p, some t =>
    if 1 ≤ divisor.toNat ∧ divisor.toNat ≤ 4095 then some { parity := p, stop := t, divisor := divisor.setWidth 12 }
    else none
  | _, _ => none

/-- The image of the settings region (R166). -/
def State.settingsImage (s : State) : List Byte :=
  s.uport.setting.image ++ s.sport.setting.image
    ++ [s.sport.answerTimeout, s.sport.retryCount, s.sport.defaultGap, s.parkLimit, 0, 0, 0, 0]

/-- An edge selection from its code (R155). -/
def EdgeSelect.ofCode (b : Byte) : Option EdgeSelect :=
  if b = 0 then some .off else if b = 1 then some .rising else if b = 2 then some .falling
  else if b = 3 then some .both else none

/-- The image of an external-input configuration record (R167). -/
def ExtConfig.image (c : ExtConfig) : List Byte :=
  [match c.edge with | .off => 0 | .rising => 1 | .falling => 2 | .both => 3, boolByte c.raise, c.activity, c.wake]

/-- An external-input configuration record from its image, where it passes R155. -/
def ExtConfig.ofImage (b : List Byte) : Option ExtConfig :=
  match EdgeSelect.ofCode (b.getD 0 0), byteBool (b.getD 1 0) with
  | some edge, some raise => some { edge := edge, raise := raise, activity := b.getD 2 0, wake := b.getD 3 0 }
  | _, _ => none

/-- The image of the event region: status, enable, and the clear location, which reads 0x00 (R148, R167). -/
def EventUnit.image (u : EventUnit) : List Byte :=
  [eventHigh u.status, eventLow u.status, eventHigh u.enable, eventLow u.enable, 0, 0]

/-- The input status byte: filtered levels in bits 0 to 3, edge-seen marks in bits 4 to 7 (R167). -/
def EventUnit.inputStatus (u : EventUnit) : Byte :=
  boolByte (u.inputs.get 0).filter.level ||| (boolByte (u.inputs.get 1).filter.level <<< 1)
    ||| (boolByte (u.inputs.get 2).filter.level <<< 2) ||| (boolByte (u.inputs.get 3).filter.level <<< 3)
    ||| (boolByte (u.inputs.get 0).seen <<< 4) ||| (boolByte (u.inputs.get 1).seen <<< 5)
    ||| (boolByte (u.inputs.get 2).seen <<< 6) ||| (boolByte (u.inputs.get 3).seen <<< 7)

/-- The sixteen counters of the two ports in the order of their locations (R168). -/
def State.portCounters (s : State) : List Half :=
  [s.uport.counters.parity, s.uport.counters.framing, s.uport.counters.check, s.uport.counters.gap,
    s.uport.counters.formatCount, s.uport.counters.overrun, s.uport.counters.breaks, s.uport.counters.stray,
    s.uport.counters.frames, s.uport.counters.replies, s.uport.counters.notices, s.sport.counters.timeouts,
    s.sport.counters.naks, s.sport.counters.lineFaults, s.sport.counters.answerErrors, s.sport.counters.exchangesOk]

/-- One byte of a table of 16-bit values, high byte first (R168, R169). -/
def halfTableByte (l : List Half) (offset : Nat) : Byte :=
  if offset % 2 = 0 then hiByte (l.getD (offset / 2) 0) else loByte (l.getD (offset / 2) 0)

/-- The identity block (R165). -/
def State.identity (s : State) : List Byte :=
  [0x53, 0x41, 0x02, 0x10, 0x20, 0x08, 0xC0, 0x04, 0x04, s.mgmtAddress, 0, 0, 0, 0, 0, 0]

/-- The bytes of a WRITE laid over a stored image whose first byte is at `base` (R164). -/
def overlay (base : Nat) (image : List Byte) (location : Nat) (payload : List Byte) : List Byte :=
  image.mapIdx fun i old =>
    if location ≤ base + i ∧ base + i < location + payload.length then payload.getD (base + i - location) 0 else old

/-- A WRITE touches a record of `size` bytes at `base` (R164). -/
def touches (base size location length : Nat) : Bool := location < base + size && base < location + length

/-- A record as it would stand after a WRITE: the stored one where the WRITE does not touch it; otherwise what its
image with the bytes written in place gives, `none` where that fails its validation (R164). -/
def rewritten {α : Type} (base : Nat) (image : List Byte) (ofImage : List Byte → Option α) (old : α)
    (location : Nat) (payload : List Byte) : Option α :=
  if touches base image.length location payload.length then ofImage (overlay base image location payload)
  else some old

/-- Records judged whole: all of them as they would stand, or `none` where any fails (R69, R164). -/
def judgeAll {α : Type} {n : Nat} (f : Fin n → Option α) : Option (Vector α n) :=
  if h : ∀ i, (f i).isSome then some (tabulate n fun i => (f i).get (h i)) else none

end Sys2Proof.Machine
end

