-- ==== Sys2Proof/Machine/Management.lean ====
section
/-! DEFINITION. The management engine: the region map, serving a LOCAL entry, and the serving commands (R53, R54, R118
to R122, R147 to R150, R161 to R176). -/
namespace Sys2Proof.Machine

/-! ## The region map (section 9.2) -/

/-- The regions of the management space. -/
inductive Region where
  | identity
  | settings
  | events
  | extConfig
  | inputStatus
  | counters
  | windows
  | hits
  | domainConfig
  | domainStatus
  | domainCommand
  | globalCommand
  | shadowSelect
  | shadowRead
  | shadowEdit
  deriving DecidableEq, Repr

/-- All regions, in the order of their locations. -/
def allRegions : List Region :=
  [.identity, .settings, .events, .extConfig, .inputStatus, .counters, .windows, .hits, .domainConfig, .domainStatus,
    .domainCommand, .globalCommand, .shadowSelect, .shadowRead, .shadowEdit]

/-- First location of a region. -/
def Region.base : Region → Nat
  | .identity => 0x0000
  | .settings => 0x0010
  | .events => 0x0020
  | .extConfig => 0x0028
  | .inputStatus => 0x0038
  | .counters => 0x0040
  | .windows => 0x0100
  | .hits => 0x0200
  | .domainConfig => 0x0300
  | .domainStatus => 0x0380
  | .domainCommand => 0x0400
  | .globalCommand => 0x0408
  | .shadowSelect => 0x0410
  | .shadowRead => 0x0420
  | .shadowEdit => 0x0430

/-- Number of locations of a region. -/
def Region.size : Region → Nat
  | .identity => 16
  | .settings => 16
  | .events => 6
  | .extConfig => 16
  | .inputStatus => 1
  | .counters => 32
  | .windows => 256
  | .hits => 64
  | .domainConfig => 128
  | .domainStatus => 128
  | .domainCommand => 8
  | .globalCommand => 1
  | .shadowSelect => 1
  | .shadowRead => 16
  | .shadowEdit => 16

/-- The region that holds a whole range, if one does (R163). -/
def regionOf (location length : Nat) : Option Region :=
  allRegions.find? fun r => r.base ≤ location && location + length ≤ r.base + r.size

/-- The region of a command's range. -/
def Command.region (c : Command) : Option Region := regionOf c.location.toNat c.length.toNat

/-! ## Reading (R163) -/

/-- The byte at an offset of a region, as it stands; write-only and unused bytes read 0x00 (R163, R165 to R175). The
shadow read image is read by its own rule (R122). -/
def State.regionByte (s : State) (r : Region) (offset : Nat) : Byte :=
  match r with
  | .identity => s.identity.getD offset 0
  | .settings => s.settingsImage.getD offset 0
  | .events => s.events.image.getD offset 0
  | .extConfig => (s.events.inputs.get (Fin.ofNat 4 (offset / 4))).config.image.getD (offset % 4) 0
  | .inputStatus => s.events.inputStatus
  | .counters => halfTableByte s.portCounters offset
  | .windows => (s.windows.get (Fin.ofNat 32 (offset / 8))).image.getD (offset % 8) 0
  | .hits => halfTableByte s.hits.toList offset
  | .domainConfig => (s.dom (Fin.ofNat 8 (offset / 16))).config.image.getD (offset % 16) 0
  | .domainStatus => (s.statusImage (Fin.ofNat 8 (offset / 16))).getD (offset % 16) 0
  | .domainCommand => 0
  | .globalCommand => 0
  | .shadowSelect => 0
  | .shadowRead => 0
  | .shadowEdit => 0

/-- The bytes of a range inside a region, all of one moment (R162). -/
def State.regionBytes (s : State) (r : Region) (location length : Nat) : List Byte :=
  (List.range length).map fun i => s.regionByte r (location - r.base + i)

/-! ## Serving (R53, R162) -/

/-- The rows of the command table that serve a LOCAL entry. -/
inductive ServeKind where
  | mgmtRead
  | mgmtProbe
  | mgmtWrite
  | uportFormatWrite
  | sportFormatWrite
  | enableWrite
  | clearWrite
  | windowWrite
  | domainConfigWrite
  | wake
  | sleep
  | clearFault
  | clearShadow
  | segmentReset
  | clearCounters
  | shadowSelect
  | shadowRead
  | insert
  | delete
  deriving DecidableEq, Repr

/-- A command writes, and its whole range lies in a region. -/
def Command.writesIn (c : Command) (r : Region) : Bool := c.op == opWrite && c.region == some r

/-- A command's range touches `size` bytes at `base`. -/
def Command.touchesAt (c : Command) (base size : Nat) : Bool := touches base size c.location.toNat c.length.toNat

/-- A one-byte WRITE of a code into a command region (R172, R173). -/
def Command.gives (c : Command) (r : Region) (code : Byte) : Bool :=
  c.writesIn r && c.length == 1 && c.payload.head? == some code

/-- A WRITE of a whole edit image with an action code (R118, R175). -/
def Command.edits (c : Command) (action : Byte) : Bool :=
  c.writesIn .shadowEdit && c.length == 16 && c.payload.head? == some action

/-- The WRITEs that have a row of their own in the command table, by that row. -/
def ownRow (k : ServeKind) (c : Command) : Bool :=
  match k with
  | .uportFormatWrite => c.writesIn .settings && c.touchesAt 0x0010 4
  | .sportFormatWrite => c.writesIn .settings && c.touchesAt 0x0014 4
  | .enableWrite => c.writesIn .events && c.touchesAt 0x0022 2
  | .clearWrite => c.writesIn .events && c.touchesAt 0x0024 2
  | .windowWrite => c.writesIn .windows
  | .domainConfigWrite => c.writesIn .domainConfig
  | .wake => c.gives .domainCommand 0x01
  | .sleep => c.gives .domainCommand 0x02
  | .clearFault => c.gives .domainCommand 0x03
  | .clearShadow => c.gives .domainCommand 0x04
  | .segmentReset => c.gives .globalCommand 0x01
  | .clearCounters => c.gives .globalCommand 0x02
  | .shadowSelect => c.writesIn .shadowSelect
  | .insert => c.edits 0x01
  | .delete => c.edits 0x02
  | .mgmtRead => false
  | .mgmtProbe => false
  | .mgmtWrite => false
  | .shadowRead => false

/-- The rows a WRITE may have of its own. -/
def ownRows : List ServeKind :=
  [.uportFormatWrite, .sportFormatWrite, .enableWrite, .clearWrite, .windowWrite, .domainConfigWrite, .wake, .sleep,
    .clearFault, .clearShadow, .segmentReset, .clearCounters, .shadowSelect, .insert, .delete]

/-- The row serves a LOCAL entry with this command. A WRITE that spans two rows' locations in one region (both formats;
the enable and the clear location) is served by either, with one effect; a WRITE no other row names is MGMT_WRITE's. -/
def serves (k : ServeKind) (c : Command) : Bool :=
  match k with
  | .mgmtProbe => c.op == opProbe
  | .shadowRead => c.op == opRead && c.region == some .shadowRead
  | .mgmtRead => c.op == opRead && c.region != some .shadowRead
  | .mgmtWrite => c.op == opWrite && !ownRows.any (ownRow · c)
  | .uportFormatWrite | .sportFormatWrite | .enableWrite | .clearWrite | .windowWrite | .domainConfigWrite | .wake
  | .sleep | .clearFault | .clearShadow | .segmentReset | .clearCounters | .shadowSelect | .insert | .delete =>
    ownRow k c

/-- How a serving ends (R162): OK with the state it leaves and the bytes read, or a failure that changes nothing. -/
inductive Served where
  | ok (s : State) (reply : List Byte)
  | refused
  | invalid

/-- The entry becomes DONE with the serving's status and joins the reply queue; MGMT_ERROR is set for REFUSED and
INVALID (R53, R146, R162). -/
def State.conclude (s : State) (tag : Byte) : Served → State
  | .ok t reply => t.finishEntry tag .ok reply
  | .refused => (s.raise .mgmtError).finishEntry tag .refused []
  | .invalid => (s.raise .mgmtError).finishEntry tag .invalid []

/-- The oldest LOCAL entry (R53). -/
def State.oldestLocal (s : State) : Option Entry := s.entries.find? (·.state.isLocal)

/-- The management engine serves the oldest LOCAL entry, where it is one this row serves (R53). -/
def State.serve (s : State) (k : ServeKind) (body : Byte → Command → State → Served) : State :=
  match s.oldestLocal with
  | some e => if serves k e.cmd then s.conclude e.tag (body e.tag e.cmd s) else s
  | none => s

/-- A command of the domain controller or the store: OK where it gives a state, REFUSED where it does not. -/
def servedCommand : Option State → Served
  | some t => .ok t []
  | none => .refused

/-- The domain of a domain command location 0x0400 + d (R172). -/
def Command.domain (c : Command) : DomainId := ⟨c.location.toNat % 8, Nat.mod_lt _ (by decide)⟩

/-! ## The bodies -/

/-- A READ outside the shadow read image (R161, R163). -/
def serveRead (_tag : Byte) (c : Command) (s : State) : Served :=
  match c.region with
  | some r => .ok s (s.regionBytes r c.location.toNat c.length.toNat)
  | none => .invalid

/-- A one-byte setting in a range (R127, R166). -/
def settingByte (low high : Nat) (b : List Byte) : Option Byte :=
  if low ≤ (b.getD 0 0).toNat ∧ (b.getD 0 0).toNat ≤ high then some (b.getD 0 0) else none

/-- A WRITE in the settings region (R2, R9, R48, R127, R166): judged whole; a WRITE of the U-port format leaves it
pending for the reply to this entry. -/
def writeSettings (tag : Byte) (c : Command) (s : State) : Served :=
  let loc := c.location.toNat
  match rewritten 0x0010 s.uport.setting.image Format.ofImage s.uport.setting loc c.payload,
    rewritten 0x0014 s.sport.setting.image Format.ofImage s.sport.setting loc c.payload,
    rewritten 0x0018 [s.sport.answerTimeout] (settingByte 4 255) s.sport.answerTimeout loc c.payload,
    rewritten 0x0019 [s.sport.retryCount] (settingByte 0 3) s.sport.retryCount loc c.payload,
    rewritten 0x001A [s.sport.defaultGap] (settingByte 1 16) s.sport.defaultGap loc c.payload,
    rewritten 0x001B [s.parkLimit] (settingByte 1 255) s.parkLimit loc c.payload with
  | some u, some p, some timeout, some retry, some gap, some park =>
    .ok
      (((s.withUport { s.uport with
          setting := u
          pendingFormat :=
            if touches 0x0010 4 loc c.payload.length then some { format := u, tag := tag } else s.uport.pendingFormat
        }).withSport { s.sport with
          setting := p, answerTimeout := timeout, retryCount := retry, defaultGap := gap }).withParkLimit park)
      []
  | _, _, _, _, _, _ => .invalid

/-- The external inputs with new configuration records; filters and marks stay (R155). -/
def EventUnit.configure (u : EventUnit) (cs : Vector ExtConfig 4) : EventUnit :=
  { u with inputs := tabulate 4 fun i => { u.inputs.get i with config := cs.get i } }

/-- A WRITE in the external-input region (R155). -/
def writeExtConfig (c : Command) (s : State) : Served :=
  match judgeAll fun i : Fin 4 =>
      rewritten (0x0028 + 4 * i.val) (s.events.inputs.get i).config.image ExtConfig.ofImage
        (s.events.inputs.get i).config c.location.toNat c.payload with
  | some cs => .ok (s.withEvents (s.events.configure cs)) []
  | none => .invalid

/-- A set of classes from its two characters (R16). -/
def eventSetOf (hi lo : Byte) : EventSet := (joinBytes hi lo).setWidth 15

/-- The event unit after an accepted WRITE of enable and clear characters: named classes leave the status set, the
enable set is replaced, and the marks are cleared if EXT_INPUT is named (R147, R148, R150). -/
def EventUnit.write (u : EventUnit) (enable cleared : EventSet) : EventUnit :=
  { status := u.status &&& ~~~cleared
    enable := enable
    inputs :=
      if cleared.has .extInput then tabulate 4 fun i => { u.inputs.get i with seen := false } else u.inputs }

/-- A WRITE in the event region (R147, R148, R150): INVALID where it touches the status characters or sets bit 7 of a
high character. -/
def writeEvents (c : Command) (s : State) : Served :=
  let loc := c.location.toNat
  let e := overlay 0x0022 [eventHigh s.events.enable, eventLow s.events.enable] loc c.payload
  let k := overlay 0x0024 [0, 0] loc c.payload
  if touches 0x0020 2 loc c.payload.length then .invalid
  else if (e.getD 0 0).getLsbD 7 || (k.getD 0 0).getLsbD 7 then .invalid
  else
    .ok (s.withEvents (s.events.write (eventSetOf (e.getD 0 0) (e.getD 1 0)) (eventSetOf (k.getD 0 0) (k.getD 1 0))))
      []

/-- A WRITE with no row of its own (R164): the global settings and the external-input records; every other location it
may name is read-only, outside every region, or a command region with a code or a length it does not take. -/
def serveWrite (tag : Byte) (c : Command) (s : State) : Served :=
  match c.region with
  | some .settings => writeSettings tag c s
  | some .extConfig => writeExtConfig c s
  | some .identity | some .events | some .inputStatus | some .counters | some .windows | some .hits
  | some .domainConfig | some .domainStatus | some .domainCommand | some .globalCommand | some .shadowSelect
  | some .shadowRead | some .shadowEdit | none => .invalid

/-- A WRITE in the window region (R69, R71, R169). -/
def writeWindows (_tag : Byte) (c : Command) (s : State) : Served :=
  match judgeAll fun i : Fin 32 =>
      rewritten (0x0100 + 8 * i.val) (s.windows.get i).image Window.ofImage (s.windows.get i) c.location.toNat
        c.payload with
  | some w => .ok (s.withWindows w) []
  | none => .invalid

/-- A domain with a new configuration record; a change of mode to HELD in WARNING returns it to ON (R76, R82). -/
def Domain.configure (x : Domain) (c : DomainConfig) : Domain :=
  { x with
    config := c
    state :=
      if x.config.mode = .managed ∧ c.mode = .heldMode ∧ x.state.isWarning = true then .on c.idleLoad else x.state }

/-- A WRITE in the domain configuration region (R75, R76, R82, R170). -/
def writeDomainConfigs (_tag : Byte) (c : Command) (s : State) : Served :=
  match judgeAll fun d : DomainId =>
      rewritten (0x0300 + 16 * d.val) (s.dom d).config.image (DomainConfig.ofImage s.mgmtAddress) (s.dom d).config
        c.location.toNat c.payload with
  | some cs => .ok (s.withDomains (tabulate 8 fun d => (s.dom d).configure (cs.get d))) []
  | none => .invalid

/-- An ACTIVE entry takes the abort mark (R55). -/
def Entry.markAbort (e : Entry) : Entry :=
  match e.state with
  | .active _ => { e with state := .active true }
  | .waitingLocal | .queued | .parked _ | .done _ _ => e

/-- An entry SEGMENT_RESET finishes: QUEUED, PARKED, or LOCAL other than the command's own (R54). -/
def Entry.resetAborts (own : Byte) (e : Entry) : Bool :=
  e.state.isQueued || e.state.isParked || (e.state.isLocal && e.tag != own)

/-- A domain under SEGMENT_RESET (R102). -/
def Domain.segmentReset (x : Domain) : Domain :=
  { x with state := .off, pendingWake := false, attempt := 0, cause := .none }

/-- SEGMENT_RESET (R54, R55, R102, R140, R173). -/
def serveSegmentReset (tag : Byte) (_c : Command) (s : State) : Served :=
  let t := s.finishWhere (Entry.resetAborts tag) .aborted
  .ok
    (((t.withEntries (t.entries.map Entry.markAbort)).withDomains
        (tabulate 8 fun d => (s.dom d).segmentReset)).withSport
      { s.sport with notes := Vector.replicate 8 none })
    []

/-- A domain with its two counts at 0 (R100). -/
def Domain.clearCounts (x : Domain) : Domain := { x with wakeCount := 0, failedCount := 0 }

/-- CLEAR_COUNTERS (R72, R100, R141, R174). -/
def serveClearCounters (_tag : Byte) (_c : Command) (s : State) : Served :=
  .ok
    ((((s.withUport { s.uport with counters := .zero }).withSport { s.sport with counters := .zero }).withHits
        (Vector.replicate 32 0)).withDomains (tabulate 8 fun d => (s.dom d).clearCounts))
    []

/-- A WRITE to the shadow select (R122, R175). -/
def serveShadowSelect (_tag : Byte) (c : Command) (s : State) : Served :=
  if h : (c.payload.getD 0 0).toNat < 8 then
    .ok (s.withShadow (s.shadow.select ⟨(c.payload.getD 0 0).toNat, h⟩)) []
  else .invalid

/-- A READ of the shadow read image (R122, R163, R175): whole, from its first location. -/
def serveShadowRead (_tag : Byte) (c : Command) (s : State) : Served :=
  if c.location = 0x0420 ∧ c.length = 16 then
    match s.shadow.atCursor with
    | some (d, x) => .ok (s.withShadow s.shadow.advance) (readImage d x)
    | none => .ok s endMarker
  else .invalid

/-- The key an edit image names (R118, R175). -/
def editKey (b : List Byte) : Key := { target := b.getD 2 0, location := joinBytes (b.getD 3 0) (b.getD 4 0) }

/-- The target of an edit is one a shadow entry may have (R103, R118). -/
def editTargetOk (mgmt : Byte) (b : List Byte) : Bool :=
  1 ≤ (b.getD 2 0).toNat && (b.getD 2 0).toNat ≤ 0x7F && b.getD 2 0 != mgmt

/-- INSERT (R118, R119). -/
def serveInsert (_tag : Byte) (c : Command) (s : State) : Served :=
  let b := c.payload
  let n := (b.getD 5 0).toNat
  if h : (b.getD 1 0).toNat < 8 then
    if editTargetOk s.mgmtAddress b && 1 ≤ n && n ≤ shadowDataLimit && rangeFits (editKey b).location n then
      match s.storePut ⟨(b.getD 1 0).toNat, h⟩ { key := editKey b, data := (b.drop 6).take n } with
      | some store => .ok (s.withShadow store) []
      | none => .refused
    else .invalid
  else .invalid

/-- DELETE (R118, R120). -/
def serveDelete (_tag : Byte) (c : Command) (s : State) : Served :=
  if editTargetOk s.mgmtAddress c.payload then
    match s.shadow.holder (editKey c.payload) with
    | some e =>
      if (s.dom e).state.isRestoring then .refused
      else .ok (s.withShadow (s.shadow.remove e (editKey c.payload))) []
    | none => .ok s []
  else .invalid

/-! ## The serving commands -/

/-- MGMT_READ (R161, R163). -/
def execMgmtRead (s : State) : Host.Outcome State Fault Refusal := finishEvent s (s.serve .mgmtRead serveRead)

/-- MGMT_PROBE (R161): answered OK; its location is not judged and nothing is read or changed. -/
def execMgmtProbe (s : State) : Host.Outcome State Fault Refusal :=
  finishEvent s (s.serve .mgmtProbe fun _ _ t => .ok t [])

/-- MGMT_WRITE (R164). -/
def execMgmtWrite (s : State) : Host.Outcome State Fault Refusal := finishEvent s (s.serve .mgmtWrite serveWrite)

/-- UPORT_FORMAT_WRITE (R2, R9, R166). -/
def execUportFormatWrite (s : State) : Host.Outcome State Fault Refusal :=
  finishEvent s (s.serve .uportFormatWrite writeSettings)

/-- SPORT_FORMAT_WRITE (R2, R9, R166). -/
def execSportFormatWrite (s : State) : Host.Outcome State Fault Refusal :=
  finishEvent s (s.serve .sportFormatWrite writeSettings)

/-- ENABLE_WRITE (R147, R150). -/
def execEnableWrite (s : State) : Host.Outcome State Fault Refusal :=
  finishEvent s (s.serve .enableWrite fun _ => writeEvents)

/-- CLEAR_WRITE (R148, R150). -/
def execClearWrite (s : State) : Host.Outcome State Fault Refusal :=
  finishEvent s (s.serve .clearWrite fun _ => writeEvents)

/-- WINDOW_WRITE (R69). -/
def execWindowWrite (s : State) : Host.Outcome State Fault Refusal := finishEvent s (s.serve .windowWrite writeWindows)

/-- DOMAIN_CONFIG_WRITE (R75). -/
def execDomainConfigWrite (s : State) : Host.Outcome State Fault Refusal :=
  finishEvent s (s.serve .domainConfigWrite writeDomainConfigs)

/-- WAKE (R96). -/
def execWake (s : State) : Host.Outcome State Fault Refusal :=
  finishEvent s (s.serve .wake fun _ c t => servedCommand (t.wakeCommand c.domain))

/-- SLEEP (R97). -/
def execSleep (s : State) : Host.Outcome State Fault Refusal :=
  finishEvent s (s.serve .sleep fun _ c t => servedCommand (t.sleepCommand c.domain))

/-- CLEAR_FAULT (R98). -/
def execClearFault (s : State) : Host.Outcome State Fault Refusal :=
  finishEvent s (s.serve .clearFault fun _ c t => servedCommand (t.clearFaultCommand c.domain))

/-- CLEAR_SHADOW (R121). -/
def execClearShadow (s : State) : Host.Outcome State Fault Refusal :=
  finishEvent s (s.serve .clearShadow fun _ c t => servedCommand (t.clearShadowCommand c.domain))

/-- SEGMENT_RESET (R54, R173). -/
def execSegmentReset (s : State) : Host.Outcome State Fault Refusal :=
  finishEvent s (s.serve .segmentReset serveSegmentReset)

/-- CLEAR_COUNTERS (R174). -/
def execClearCounters (s : State) : Host.Outcome State Fault Refusal :=
  finishEvent s (s.serve .clearCounters serveClearCounters)

/-- SHADOW_SELECT (R122). -/
def execShadowSelect (s : State) : Host.Outcome State Fault Refusal :=
  finishEvent s (s.serve .shadowSelect serveShadowSelect)

/-- SHADOW_READ (R122). -/
def execShadowRead (s : State) : Host.Outcome State Fault Refusal := finishEvent s (s.serve .shadowRead serveShadowRead)

/-- INSERT (R119). -/
def execInsert (s : State) : Host.Outcome State Fault Refusal := finishEvent s (s.serve .insert serveInsert)

/-- DELETE (R120). -/
def execDelete (s : State) : Host.Outcome State Fault Refusal := finishEvent s (s.serve .delete serveDelete)

end Sys2Proof.Machine
end

