-- ==== Sys2Proof/Machine/Time.lean ====
section
/-! DEFINITION. The power-on reset (R159), the lines the part drives, and one millisecond of time (00_scope "Time"). -/
namespace Sys2Proof.Machine

/-- POWER_ON_RESET (R35, R56, R73, R101, R124, R143, R159, R176): every block at its power-on values; the straps, the
input levels and the line levels are those at the end of the reset. POWER_UP is set and enabled and notice-pending is
raised. The waiting commands are outside the part and stay. -/
def execPowerOnReset (pins : ResetPins) (s : State) : Host.Outcome State Fault Refusal :=
  .next (State.powerOn pins s.pending)

/-! ## The lines the part drives -/

/-- The lines the part drives: ALERT asserted (pulled low), each power line high, a frame in progress on UTX, and SDL
driven with a command frame (R28, R78, R132, R151). -/
structure Outputs where
  alert     : Bool
  power     : Vector Bool 8
  utxBusy   : Bool
  sdlDriven : Bool
  deriving DecidableEq, Repr

/-- The lines while RESETN is held low: ALERT released (R151), every power line low (R101), UTX at mark (R35), SDL
released (R143). -/
def Outputs.inReset : Outputs :=
  { alert := false, power := Vector.replicate 8 false, utxBusy := false, sdlDriven := false }

/-- The lines as the state drives them, RESETN high. -/
def State.outputs (s : State) : Outputs :=
  { alert := s.alert, power := tabulate 8 s.powerLine, utxBusy := s.uport.tx.isSome
    sdlDriven := s.sport.frameOnLine.isSome }

/-- The lines at a level of RESETN. A power-on reset is one command, so RESETN is low inside that command alone and no
field of State holds its level (log entry 21). -/
def State.outputsAt (s : State) (resetnLow : Bool) : Outputs := if resetnLow then .inReset else s.outputs

/-! ## One millisecond (log entry 1) -/

/-- A domain's running timer falls by one millisecond and rests at 0 until its expiry is taken (R80, R81, R84, R87). -/
def DomState.tick : DomState → DomState
  | .cooldown t => .cooldown (t - 1)
  | .settling t => .settling (t - 1)
  | .on t => .on (t.map (· - 1))
  | .warning t => .warning (t - 1)
  | .off => .off
  | .checking probe granted => .checking probe granted
  | .restoring key granted => .restoring key granted
  | .draining => .draining
  | .fault => .fault

/-- A parked entry's timer falls by one millisecond (R48). -/
def Entry.tick (e : Entry) : Entry :=
  match e.state with
  | .parked t => { e with state := .parked (t - 1) }
  | .waitingLocal | .queued | .active _ | .done _ _ => e

/-- An idle period grows by one millisecond of reference-clock cycles (R6). -/
def LineState.tick : LineState → LineState
  | .mark idle => .mark (idle + Config.cyclesPerMs)
  | .space => .space
  | .held => .held
  | .broken => .broken
  | .unseen => .unseen

/-- A filter's new level has been stable one millisecond longer (R94, R154). -/
def Filter.tick (f : Filter) : Filter := { f with progress := f.progress.map (· + 1) }

/-- A frame on UTX has been in progress one millisecond longer. -/
def Transmission.tick (t : Transmission) : Transmission := { t with elapsed := t.elapsed + Config.cyclesPerMs }

/-- The external inputs one millisecond later. -/
def EventUnit.tick (u : EventUnit) : EventUnit :=
  { u with inputs := tabulate 4 fun i => { u.inputs.get i with filter := (u.inputs.get i).filter.tick } }

/-- One millisecond passes with no event: every running measure of time moves, and nothing else. -/
def State.tick (s : State) : State :=
  { s with
    uport := { s.uport with line := s.uport.line.tick, tx := s.uport.tx.map Transmission.tick }
    entries := s.entries.map Entry.tick
    domains := tabulate 8 fun d => { s.dom d with state := (s.dom d).state.tick }
    pg := tabulate 4 fun i => (s.pg.get i).tick
    sport := { s.sport with line := s.sport.line.tick }
    events := s.events.tick }

end Sys2Proof.Machine
end

