-- ==== Sys2Proof/Machine/Dispatch.lean ====
section
/-! DEFINITION. The dispatch: one arm per command, each one direct call of that command's meaning. -/
namespace Sys2Proof.Machine

/-- The effect of a command on everything but the queue. -/
def exec (i : Instr) (s : State) : Host.Outcome State Fault Refusal :=
  match i with
  | .powerOnReset pins => Sys2Proof.Machine.execPowerOnReset pins s
  | .urxCharacterReceived data mark => Sys2Proof.Machine.execUrxCharacterReceived data mark s
  | .uportGapExpiry => Sys2Proof.Machine.execUportGapExpiry s
  | .discardEnd => Sys2Proof.Machine.execDiscardEnd s
  | .upstreamBreak => Sys2Proof.Machine.execBreak s
  | .breakEnd => Sys2Proof.Machine.execBreakEnd s
  | .transmitterChoice => Sys2Proof.Machine.execTransmitterChoice s
  | .refusalSent => Sys2Proof.Machine.execRefusalSent s
  | .replySent => Sys2Proof.Machine.execReplySent s
  | .noticeSent => Sys2Proof.Machine.execNoticeSent s
  | .parkTimerExpiry tag => Sys2Proof.Machine.execParkTimerExpiry tag s
  | .mgmtRead => Sys2Proof.Machine.execMgmtRead s
  | .mgmtProbe => Sys2Proof.Machine.execMgmtProbe s
  | .mgmtWrite => Sys2Proof.Machine.execMgmtWrite s
  | .uportFormatWrite => Sys2Proof.Machine.execUportFormatWrite s
  | .sportFormatWrite => Sys2Proof.Machine.execSportFormatWrite s
  | .enableWrite => Sys2Proof.Machine.execEnableWrite s
  | .clearWrite => Sys2Proof.Machine.execClearWrite s
  | .windowWrite => Sys2Proof.Machine.execWindowWrite s
  | .domainConfigWrite => Sys2Proof.Machine.execDomainConfigWrite s
  | .wake => Sys2Proof.Machine.execWake s
  | .sleep => Sys2Proof.Machine.execSleep s
  | .clearFault => Sys2Proof.Machine.execClearFault s
  | .clearShadow => Sys2Proof.Machine.execClearShadow s
  | .segmentReset => Sys2Proof.Machine.execSegmentReset s
  | .clearCounters => Sys2Proof.Machine.execClearCounters s
  | .shadowSelect => Sys2Proof.Machine.execShadowSelect s
  | .shadowRead => Sys2Proof.Machine.execShadowRead s
  | .insert => Sys2Proof.Machine.execInsert s
  | .delete => Sys2Proof.Machine.execDelete s
  | .idleExpiry d => Sys2Proof.Machine.execIdleExpiry d s
  | .warningExpiry d => Sys2Proof.Machine.execWarningExpiry d s
  | .minimumOffExpiry d => Sys2Proof.Machine.execMinimumOffExpiry d s
  | .settleExpiry d => Sys2Proof.Machine.execSettleExpiry d s
  | .powerGoodChange input high => Sys2Proof.Machine.execPowerGoodChange input high s
  | .powerGoodFilteredChange input => Sys2Proof.Machine.execPowerGoodFilteredChange input s
  | .extInputChange input high => Sys2Proof.Machine.execExtInputChange input high s
  | .filteredChange input => Sys2Proof.Machine.execFilteredChange input s
  | .grant => Sys2Proof.Machine.execGrant s
  | .recoveryGapReached => Sys2Proof.Machine.execRecoveryGapReached s
  | .lineIdleWaitLimit => Sys2Proof.Machine.execLineIdleWaitLimit s
  | .echoMismatch => Sys2Proof.Machine.execEchoMismatch s
  | .commandComplete => Sys2Proof.Machine.execCommandComplete s
  | .answerTimeout => Sys2Proof.Machine.execAnswerTimeout s
  | .answerCharacterReceived data mark => Sys2Proof.Machine.execAnswerCharacterReceived data mark s
  | .answerGapExpiry => Sys2Proof.Machine.execAnswerGapExpiry s
  | .startEdge port => Sys2Proof.Machine.execStartEdge port s
  | .returnToMark port => Sys2Proof.Machine.execReturnToMark port s
  | .answerCharacterStart => Sys2Proof.Machine.execAnswerCharacterStart s

end Sys2Proof.Machine
end

