-- ==== Sys2Proof/Machine/Step.lean ====
section
/-! DEFINITION. One step: the command at the front of the queue is taken and run. -/
namespace Sys2Proof.Machine

/-- One step. The command at the front of the queue runs on the state with the rest of the queue. On an empty queue one
millisecond passes. DESIGN CHOICE (log entry 1). -/
def step (s : State) : Host.Outcome State Fault Refusal :=
  match s.pending with
  | i :: rest => exec i (s.withPending rest)
  | [] => .next s.tick

/-- The state with the command a word spells put at the front of the queue; unchanged where the word spells none (log
entry 18). -/
def State.withFetchWord (s : State) (nbits w : Nat) : State :=
  match decodeTableWord nbits w with
  | some i => s.withPending (i :: s.pending)
  | none => s

end Sys2Proof.Machine
end

