-- ==== Sys2Proof/WellFormed.lean ====
section
/-! DEFINITION. Well-formed commands. Domains, inputs, ports and marks are bounded by their types; the one operand a
type does not bound is a tag, which is a character of value 0x00 to 0x0F (R14, R36). -/
namespace Sys2Proof

/-- A tag is in 0x00..0x0F (R36). -/
def tagInRange (tag : Byte) : Bool := tag.toNat ≤ 0x0F

/-- A command's operands are in the ranges the specification gives them. -/
def WellFormed : Instr → Bool
  | .parkTimerExpiry tag => tagInRange tag
  | .powerOnReset _ | .urxCharacterReceived _ _ | .uportGapExpiry | .discardEnd | .upstreamBreak | .breakEnd
  | .transmitterChoice | .refusalSent | .replySent | .noticeSent | .mgmtRead | .mgmtProbe | .mgmtWrite
  | .uportFormatWrite | .sportFormatWrite | .enableWrite | .clearWrite | .windowWrite | .domainConfigWrite
  | .wake | .sleep | .clearFault | .clearShadow | .segmentReset | .clearCounters | .shadowSelect | .shadowRead
  | .insert | .delete | .idleExpiry _ | .warningExpiry _ | .minimumOffExpiry _ | .settleExpiry _
  | .powerGoodChange _ _ | .powerGoodFilteredChange _ | .extInputChange _ _ | .filteredChange _ | .grant
  | .recoveryGapReached | .lineIdleWaitLimit | .echoMismatch | .commandComplete | .answerTimeout
  | .answerCharacterReceived _ _ | .answerGapExpiry | .startEdge _ | .returnToMark _ | .answerCharacterStart => true

end Sys2Proof
end

