-- ==== Sys2Proof/Safety.lean ====
section
/-! DEFINITION. The vocabulary of the statements: frames over the blocks of State, the laws that hold of every state a
run reaches, and the situations the statements speak of. -/
namespace Sys2Proof.Machine

/-! ## Frames -/

/-- The parts of State a frame names. -/
inductive Block where
  | uport
  | entries
  | replyQueue
  | parkLimit
  | windows
  | hits
  | domains
  | pg
  | shadow
  | sport
  | events
  | straps
  | pending
  deriving DecidableEq, Repr

/-- Two states agree on a block. -/
def State.agrees (s t : State) : Block → Prop
  | .uport => t.uport = s.uport
  | .entries => t.entries = s.entries
  | .replyQueue => t.replyQueue = s.replyQueue
  | .parkLimit => t.parkLimit = s.parkLimit
  | .windows => t.windows = s.windows
  | .hits => t.hits = s.hits
  | .domains => t.domains = s.domains
  | .pg => t.pg = s.pg
  | .shadow => t.shadow = s.shadow
  | .sport => t.sport = s.sport
  | .events => t.events = s.events
  | .straps => t.straps = s.straps
  | .pending => t.pending = s.pending

/-- Every block outside `changed` is as it was. -/
def Frame (changed : List Block) (s t : State) : Prop := ∀ b, b ∉ changed → s.agrees t b

/-- Notice-pending after an event that leaves `t` and does not clear it: raised where the classes set and enabled go
from empty to non-empty (R152). -/
def noticeAfter (s t : State) : Bool :=
  s.uport.noticePending || (s.events.live == 0 && t.events.live != 0)

/-- The U-port is as it was, but for notice-pending, which is judged over the event (R152). -/
def UportKept (s t : State) : Prop := t.uport = { s.uport with noticePending := noticeAfter s t }

/-- A class is set in the status set and no other class changes; the enable set and the inputs stay (R145). -/
def RaisedOnly (s t : State) (cs : List EventClass) : Prop :=
  t.events = { s.events with status := cs.foldl (fun e c => e ||| c.bit) s.events.status }

/-- No domain but those named changes. -/
def OtherDomainsKept (ds : List DomainId) (s t : State) : Prop := ∀ d, d ∉ ds → t.dom d = s.dom d

/-! ## What an event does to entries -/

/-- The entry with this tag has become DONE, in its place, and no other entry has changed (R37, R43). -/
def entriesAnswered (s : State) (tag : Byte) (status : Status) (reply : List Byte) : List Entry :=
  s.entries.map fun e => if e.tag = tag then { e with state := .done status reply } else e

/-- The entry with this tag is answered: DONE, at the tail of the reply queue, nothing else of the table changed
(R43, R53). -/
def Answered (s t : State) (tag : Byte) (status : Status) (reply : List Byte) : Prop :=
  t.entries = entriesAnswered s tag status reply ∧ t.replyQueue = s.replyQueue ++ [tag]

/-- The management engine is about to serve entry `e` by row `k` (R53). -/
def Serving (s : State) (k : ServeKind) (e : Entry) : Prop := s.oldestLocal = some e ∧ serves k e.cmd = true

/-- The U-port is about to take the last character of a check-valid request frame with this tag and command (R20). -/
def AtDelivery (s : State) (data tag : Byte) (c : Command) : Prop :=
  s.uport.line.takesCharacter = true ∧ s.uport.rx = .check ∧ s.uport.asm.sum + data = 0
    ∧ s.uport.asm.header.getD 0 0 = tag ∧ headerCommand s.uport.asm.header s.uport.asm.payload = c

/-- The U-port after a delivery, before admission acts: FRAMES counted, the receiver in HUNT with an empty frame (R25). -/
def State.delivered (s : State) : State :=
  s.withUport
    { s.uport with
      line := .mark 0, rx := .hunt, asm := { header := [], payload := [], sum := 0 }
      counters := { s.uport.counters with frames := satInc s.uport.counters.frames } }

/-- A frame admission neither refuses nor finds malformed nor local (R38 to R41). -/
def Forwarded (s : State) (tag : Byte) (c : Command) : Prop :=
  s.entries.length < Config.requestEntries ∧ (∀ e ∈ s.entries, e.tag ≠ tag) ∧ malformed c = false
    ∧ c.target ≠ s.mgmtAddress

/-- A new entry at the end of the arrival order (R37). -/
def newEntry (tag : Byte) (c : Command) (snap : Option Snapshot) (x : EntryState) : Entry :=
  { tag := tag, cmd := c, snapshot := snap, attempts := 0, state := x }

/-- The S-port is in a phase with an exchange record (R126). -/
def InPhase (s : State) (phase : Phase) (x : Exchange) : Prop :=
  s.sport.attempt = some { phase := phase, exchange := x }

/-- Commands taken one after another, nothing between them. -/
def runCommands (s : State) : List Instr → Host.Outcome State Fault Refusal
  | [] => .next s
  | c :: rest =>
    match exec c s with
    | .next t => runCommands t rest
    | .fault r => .fault r
    | .refused r => .refused r

/-- Good characters taken from URX one after another. -/
def runCharacters (s : State) (chars : List Byte) : Host.Outcome State Fault Refusal :=
  runCommands s (chars.map fun b => .urxCharacterReceived b .good)

/-- Good characters of an answer taken from SDL one after another. -/
def runAnswer (s : State) (chars : List Byte) : Host.Outcome State Fault Refusal :=
  runCommands s (chars.map fun b => .answerCharacterReceived b .good)

/-- The S-port in RECEIVE after a good character, with the exchange record `x` (R133, R134). -/
def State.inReceive (s : State) (x : Exchange) : State :=
  s.withSport { s.sport with attempt := some { phase := .receive, exchange := x }, line := .mark 0 }

/-- The request frame of a tag and a command (R10). -/
def requestFrame (tag : Byte) (c : Command) : List Byte :=
  makeFrame leadRequest ([tag, c.op, c.target, hiByte c.location, loByte c.location, c.length] ++ c.payload)

/-- The classes of a set as two characters name them: classes 8 to 14 in the high one, 0 to 7 in the low one (R16). -/
def charactersName (hi lo : Byte) (c : EventClass) : Bool :=
  if c.number < 8 then lo.getLsbD c.number else hi.getLsbD (c.number - 8)

/-! ## What an event does, block by block -/

/-- The frame under assembly is discarded: one counter counted, LINK_ERROR set, the receiver in `next`, nothing else
changed (section 2.2). -/
def FrameDiscarded (s t : State) (line : LineState) (counters : UCounters) (next : RxState) : Prop :=
  Frame [.uport, .events] s t ∧ RaisedOnly s t [.linkError]
    ∧ t.uport =
      { s.uport with
        line := line, rx := next, asm := .empty, counters := counters, noticePending := noticeAfter s t }

/-- A LOCAL entry answered REFUSED or INVALID: it is DONE with that status, MGMT_ERROR is set, and nothing else has
changed (R146, R162). -/
def NotServed (s t : State) (tag : Byte) (status : Status) : Prop :=
  Answered s t tag status [] ∧ RaisedOnly s t [.mgmtError] ∧ UportKept s t
    ∧ Frame [.entries, .replyQueue, .events, .uport] s t

/-- The transmitter's choice from a state in which it is FREE (R28 to R31). -/
def Chosen (u t : State) : Prop :=
  (∀ r, u.uport.slot = some r →
      t = u.withUport { u.uport with tx := some { source := .refusal, frame := refusalFrame r, elapsed := 0 } })
    ∧ (u.uport.slot = none → u.uport.noticePending = true →
        t = u.withUport
          { u.uport with
            noticePending := false
            tx := some { source := .notice, frame := noticeFrame u.events.live, elapsed := 0 } })
    ∧ (u.uport.slot = none → u.uport.noticePending = false → u.replyQueue = [] → t = u)
    ∧ (∀ e status reply rest, u.uport.slot = none → u.uport.noticePending = false →
        u.replyQueue = e.tag :: rest → u.entry? e.tag = some e → e.state = .done status reply →
        t = (u.withReplyQueue rest).withUport
          { u.uport with
            tx := some { source := .reply e.tag, frame := replyFrame e.tag status reply, elapsed := 0 } })

/-! ### Domains -/

/-- The idle timer as a load leaves it: idle reload x 10 ms in MANAGED mode when the reload is not 0, else stopped
(R80). -/
def loadedIdle (c : DomainConfig) : Option Nat :=
  if c.mode = .managed ∧ c.idleReload ≠ 0 then some (c.idleReload.toNat * 10) else none

/-- A domain that has entered COOLDOWN: its minimum off timer loaded; with a minimum off time of 0 it has gone on to
SETTLING with its attempt number raised, or to OFF, by its pending wake (R84). -/
def Domain.cooled (x : Domain) : Domain :=
  if x.config.minimumOff ≠ 0 then { x with state := .cooldown (x.config.minimumOff.toNat * 10) }
  else if x.pendingWake then { x with state := .settling x.config.settleTime.toNat, attempt := x.attempt + 1 }
  else { x with state := .off }

/-- A domain whose wake has started from OFF (R86). -/
def Domain.woken (x : Domain) : Domain :=
  { x with state := .settling x.config.settleTime.toNat, attempt := 1 }

/-- A domain with pending wake set (R85). -/
def Domain.willWake (x : Domain) : Domain := { x with pendingWake := true }

/-- The states in which activity acts: ON and WARNING (R81). -/
def DomState.takesActivity : DomState → Bool
  | .on _ | .warning _ => true
  | .off | .cooldown _ | .settling _ | .checking _ _ | .restoring _ _ | .draining | .fault => false

/-- The states of a wake attempt: SETTLING, CHECKING and RESTORING (R78). -/
def DomState.inAttempt : DomState → Bool
  | .settling _ | .checking _ _ | .restoring _ _ => true
  | .off | .cooldown _ | .on _ | .warning _ | .draining | .fault => false

/-- A domain after activity: ON with its idle timer loaded where it was ON or in WARNING, else as it was (R81). -/
def Domain.active (x : Domain) : Domain :=
  if x.state.takesActivity then { x with state := .on (loadedIdle x.config) } else x

/-- Nothing of the domain is in progress: no entry QUEUED or ACTIVE under it, no orphan of it (R52). -/
def NoWork (s : State) (d : DomainId) : Prop :=
  (∀ e ∈ s.entries, e.domain? = some d → e.state.isQueued = false ∧ e.state.isActive = false)
    ∧ ∀ a, s.sport.attempt = some a → a.exchange.originator = .orphan → a.exchange.domain ≠ some d

/-- An entry waits for a domain: QUEUED or PARKED under it. -/
def Entry.waitsFor (e : Entry) (d : DomainId) : Bool :=
  (e.state.isQueued || e.state.isParked) && e.domain? == some d

/-- Every entry waiting for the domain is DONE with DOMAIN_FAULT, in arrival order; no other entry has changed (R51). -/
def WaitingFaulted (s t : State) (d : DomainId) : Prop :=
  t.entries = s.entries.map (fun e => if e.waitsFor d then { e with state := .done .domainFault [] } else e)
    ∧ t.replyQueue = s.replyQueue ++ (s.entries.filter (·.waitsFor d)).map (·.tag)

/-- A wake attempt of the domain has failed (R91, R92): counted, then COOLDOWN with pending wake and WAKE_RETRY while
the attempt number is below the wake limit, FAULT with the cause otherwise. -/
def AttemptFailed (s t : State) (d : DomainId) (cause : FaultCause) : Prop :=
  OtherDomainsKept [d] s t
    ∧ ((s.dom d).attempt < (s.dom d).config.wakeLimit.toNat →
        t.dom d = Domain.cooled { s.dom d with failedCount := satInc (s.dom d).failedCount, pendingWake := true }
          ∧ RaisedOnly s t [.wakeRetry] ∧ t.entries = s.entries ∧ t.replyQueue = s.replyQueue)
    ∧ ((s.dom d).config.wakeLimit.toNat ≤ (s.dom d).attempt →
        t.dom d =
            { s.dom d with
              failedCount := satInc (s.dom d).failedCount, state := .fault, cause := cause, pendingWake := false }
          ∧ RaisedOnly s t [.domainFault] ∧ WaitingFaulted s t d)

/-- The domain has reached ON at the end of a restore (R90). -/
def ReachedOn (s t : State) (d : DomainId) : Prop :=
  OtherDomainsKept [d] s t
    ∧ t.dom d =
      { s.dom d with
        state := .on (loadedIdle (s.dom d).config), attempt := 0, pendingWake := false,
        wakeCount := satInc (s.dom d).wakeCount }
    ∧ t.entries =
      s.entries.map (fun e => if e.state.isParked && e.domain? == some d then { e with state := .queued } else e)
    ∧ t.replyQueue = s.replyQueue ∧ RaisedOnly s t [.domainUp]

/-- The domain has entered RESTORING with its replay position at the head of its list, or, its list being empty, has
reached ON (R89, R90, R112). -/
def EnteredRestoring (s t : State) (d : DomainId) : Prop :=
  (∀ x rest, s.shadow.list d = x :: rest →
      t.dom d = { s.dom d with state := .restoring x.key false } ∧ OtherDomainsKept [d] s t
        ∧ t.entries = s.entries ∧ t.replyQueue = s.replyQueue ∧ t.events = s.events)
    ∧ (s.shadow.list d = [] → ReachedOn s t d)

/-! ### The segment -/

/-- A QUEUED entry is eligible, `ahead` being the entries earlier in the arrival order (R45). -/
def Eligible (s : State) (ahead : List Entry) (e : Entry) : Prop :=
  e.state = .queued ∧ e.snapshot.isSome = true
    ∧ (∀ d, e.domain? = some d → (s.dom d).state.inService = true)
    ∧ ∀ a ∈ ahead, a.cmd.target = e.cmd.target → a.snapshot.isSome = true → a.domain? = e.domain? →
        a.state.isQueued = false ∧ a.state.isActive = false ∧ a.state.isParked = false

/-- The entry is the forwarding candidate that wins: the eligible entry earliest in the arrival order (R129). -/
def OldestEligible (s : State) (e : Entry) : Prop :=
  ∃ ahead rest, s.entries = ahead ++ e :: rest ∧ Eligible s ahead e
    ∧ ∀ before x after, ahead = before ++ x :: after → ¬Eligible s before x

/-- No entry is a forwarding candidate (R128). -/
def NoForwarding (s : State) : Prop :=
  ∀ before x after, s.entries = before ++ x :: after → ¬Eligible s before x

/-- The number of a piece of work's next attempt: 1 where it has not been granted in this stay, its retry note's where
it has and waits for a retry (R125, R128, R138). -/
def NextAttempt (s : State) (d : DomainId) (granted : Bool) (n : Nat) : Prop :=
  (granted = false ∧ n = 1) ∨ (granted = true ∧ ∃ note, s.sport.notes.get d = some note ∧ n = note.attempt)

/-- The domain has a maintenance candidate: its check probe, or the replay write at its replay position (R88, R114,
R128). -/
def MaintenanceDue (s : State) (d : DomainId) (o : Originator) (c : Command) (n : Nat) : Prop :=
  (∃ target granted, (s.dom d).state = .checking target granted ∧ NextAttempt s d granted n ∧ o = .check d
      ∧ c = { op := 0x03, target := target, location := 0, length := 0, payload := [] })
    ∨ ∃ key granted x, (s.dom d).state = .restoring key granted ∧ NextAttempt s d granted n
      ∧ entryAt (s.shadow.list d) key = some x ∧ o = .replay d key
      ∧ c =
        { op := 0x02, target := x.key.target, location := x.key.location, length := BitVec.ofNat 8 x.data.length,
          payload := x.data }

/-- No domain has a maintenance candidate. -/
def NoMaintenance (s : State) : Prop := ∀ d o c n, ¬MaintenanceDue s d o c n

/-- The S-port after a grant: the record filled, the format setting and the answer timeout taken up, the flag naming
the class not granted; SEND at once where the idle period in progress has already lasted the recovery gap, else GAP
(R129 to R131). -/
def Granted (s t : State) (o : Originator) (c : Command) (d : Option DomainId) (shadow : Bool) (n : Nat)
    (other : WorkClass) (notes : Vector (Option RetryNote) 8) : Prop :=
  let gap := match d with | some d => (s.dom d).config.recoveryGap.toNat | none => s.sport.defaultGap.toNat
  let x : Exchange :=
    { originator := o, cmd := c, domain := d, shadow := shadow, gap := gap, attempt := n, format := s.sport.setting,
      answerTimeout := s.sport.answerTimeout.toNat, answer := .empty }
  let lasted := ∃ idle, s.sport.line = .mark idle ∧ s.sport.setting.charCycles gap ≤ idle
  (lasted → t.sport =
      { s.sport with
        attempt := some { phase := .send, exchange := x }, inUse := s.sport.setting, prefer := other, notes := notes,
        line := .space })
    ∧ (¬lasted → t.sport =
      { s.sport with
        attempt := some { phase := .gap, exchange := x }, inUse := s.sport.setting, prefer := other, notes := notes })

/-- The outcome of an answer whose check character is `data`, the rest of it held in the exchange record (R17, R134,
R135): the sum of its characters after the lead is not 0, or its length is not the expected one (the command's for a READ
answered ACK, 0 for every other answer), and it is ANSWER_ERROR; else status 0x00 is OK with the bytes kept, and every
other status TARGET_NAK. -/
def answerOutcome (x : Exchange) (data : Byte) : AttemptOutcome :=
  if x.answer.sum + data ≠ 0 then .answerError
  else if x.answer.length ≠ (if x.cmd.op = 0x01 ∧ x.answer.status = 0x00 then x.cmd.length else 0) then .answerError
  else if x.answer.status = 0x00 then .ok x.answer.payload
  else .targetNak

/-- A command ends the attempt in progress with an outcome, leaving the line so (R131 to R135). A good character other
than a false lead ends it where it is the check character, lead, status, length and as many payload characters as the
length says having been taken before it (R12). -/
def EndsAttempt (c : Instr) (s : State) (x : Exchange) (o : AttemptOutcome) (line : LineState) : Prop :=
  (c = .lineIdleWaitLimit ∧ InPhase s .gap x ∧ o = .lineFault ∧ line = s.sport.line)
    ∨ (c = .echoMismatch ∧ InPhase s .send x ∧ o = .lineFault ∧ line = .held)
    ∨ (c = .answerTimeout ∧ InPhase s .wait x ∧ o = .noResponse ∧ line = s.sport.line)
    ∨ (c = .answerGapExpiry ∧ InPhase s .receive x ∧ x.answer.taken ≠ 0 ∧ s.sport.line.isIdle = true
        ∧ o = .answerError ∧ line = s.sport.line)
    ∨ ∃ data mark, c = .answerCharacterReceived data mark ∧ InPhase s .receive x
      ∧ s.sport.line.takesCharacter = true ∧ line = .afterCharacter mark
      ∧ ((mark ≠ .good ∧ o = .answerError)
        ∨ (mark = .good ∧ x.answer.taken = 0 ∧ data ≠ 0xB5 ∧ o = .answerError)
        ∨ (mark = .good ∧ x.answer.taken = x.answer.length.toNat + 3 ∧ o = answerOutcome x data))

/-- The S-port after an attempt's end: FREE, the outcome counted in its one counter (R135, R141). -/
def SPort.ended (p : SPort) (line : LineState) (o : AttemptOutcome) : SPort :=
  { p with
    line := line, attempt := none
    counters :=
      match o with
      | .ok _ => { p.counters with exchangesOk := satInc p.counters.exchangesOk }
      | .targetNak => { p.counters with naks := satInc p.counters.naks }
      | .noResponse => { p.counters with timeouts := satInc p.counters.timeouts }
      | .lineFault => { p.counters with lineFaults := satInc p.counters.lineFaults }
      | .answerError => { p.counters with answerErrors := satInc p.counters.answerErrors } }

/-- An outcome makes an offer for capture to a domain (R106). -/
def offeredTo (x : Exchange) (o : AttemptOutcome) : Option DomainId :=
  match o with
  | .ok _ => if x.cmd.op = 0x02 ∧ x.shadow = true then x.domain else none
  | .targetNak | .noResponse | .lineFault | .answerError => none

/-- The store's answer to an offer: an entry of at most 8 bytes is put under its case of R107, or the capture is not
made. -/
def captureOf (s : State) (d : DomainId) (c : Command) : Option ShadowStore :=
  if c.length.toNat ≤ 8 then
    s.storePut d { key := { target := c.target, location := c.location }, data := c.payload }
  else none

/-- The store after an outcome: as the capture leaves it; with the domain's restore-incomplete mark set where the
capture is not made; unchanged where no offer is made (R106, R107, R110). -/
def storeAfter (s : State) (x : Exchange) (o : AttemptOutcome) : ShadowStore :=
  match offeredTo x o with
  | some d =>
    match captureOf s d x.cmd with
    | some h => h
    | none => { s.shadow with incomplete := s.shadow.incomplete.set d true }
  | none => s.shadow

/-- The class an offer sets: SHADOW_INCOMPLETE where the capture is not made (R110). -/
def classesOfOffer (s : State) (x : Exchange) (o : AttemptOutcome) : List EventClass :=
  match offeredTo x o with
  | some d => if captureOf s d x.cmd = none then [.shadowIncomplete] else []
  | none => []

/-- A domain in DRAINING whose work in progress has become empty in `t` powers down (R83). -/
def Drains (s t : State) (d : DomainId) : Prop := (s.dom d).state = .draining ∧ NoWork t d

/-- The domains after an event that may complete the drain of one of them (R83). -/
def DrainedOnly (s t : State) (d? : Option DomainId) : Prop :=
  ∀ d, (d? = some d → Drains s t d → t.dom d = (s.dom d).cooled) ∧ (¬(d? = some d ∧ Drains s t d) → t.dom d = s.dom d)

/-! ## Laws of every state a run reaches -/

/-- The request table's law (R38, R43, R44): at most 16 entries, no two with one tag; the reply queue holds no entry
twice and DONE entries only; the entry whose reply is being sent is DONE and off the queue; every DONE entry waits in
the queue or is being sent. -/
def RequestTableOk (s : State) : Prop :=
  s.entries.length ≤ Config.requestEntries
    ∧ (s.entries.map (·.tag)).Nodup
    ∧ s.replyQueue.Nodup
    ∧ (∀ tag ∈ s.replyQueue, ∃ e ∈ s.entries, e.tag = tag ∧ e.state.isDone = true)
    ∧ (∀ tag, s.uport.sending = some (.reply tag) →
        tag ∉ s.replyQueue ∧ ∃ e ∈ s.entries, e.tag = tag ∧ e.state.isDone = true)
    ∧ (∀ e ∈ s.entries, e.state.isDone = true → e.tag ∈ s.replyQueue ∨ s.uport.sending = some (.reply e.tag))

/-- The states in which a domain's entries may be PARKED (R51). -/
def DomState.mayPark : DomState → Bool
  | .draining | .cooldown _ | .settling _ | .checking _ _ | .restoring _ _ => true
  | .off | .on _ | .warning _ | .fault => false

/-- The states in which a PARKED entry rests on pending wake (R85). -/
def DomState.awaitsPending : DomState → Bool
  | .draining | .cooldown _ => true
  | .off | .settling _ | .checking _ _ | .restoring _ _ | .on _ | .warning _ | .fault => false

/-- The parking law of one entry (R36, R45, R51, R85, R92): QUEUED and ACTIVE entries have a snapshot; a QUEUED entry's
domain is in service; a PARKED entry's domain is in a state that may park, with pending wake set in DRAINING and
COOLDOWN. -/
def EntryParkingOk (s : State) (e : Entry) : Prop :=
  (e.state.isQueued = true → e.snapshot.isSome = true ∧ s.domainServes e.domain? = true)
    ∧ (e.state.isActive = true → e.snapshot.isSome = true)
    ∧ (e.state.isParked = true →
        ∃ d, e.domain? = some d ∧ (s.dom d).state.mayPark = true
          ∧ ((s.dom d).state.awaitsPending = true → (s.dom d).pendingWake = true))

/-- The parking law of every entry. -/
def ParkingOk (s : State) : Prop := ∀ e ∈ s.entries, EntryParkingOk s e

/-- At most one entry is ACTIVE, and it is the one the exchange record names (R46, R126, R137). -/
def SegmentOk (s : State) : Prop :=
  (∀ e ∈ s.entries, e.state.isActive = true →
      ∃ a, s.sport.attempt = some a ∧ a.exchange.originator = .entry e.tag
        ∧ a.exchange.cmd = e.cmd ∧ a.exchange.domain = e.domain?)
    ∧ (∀ a tag, s.sport.attempt = some a → a.exchange.originator = .entry tag →
        ∃ e ∈ s.entries, e.tag = tag ∧ e.state.isActive = true)

/-- All keys of the store, list by list. -/
def ShadowStore.keys (h : ShadowStore) : List Key := (allDomains.flatMap h.list).map (·.key)

/-- The shadow store's law (R104): at most 192 entries, no two with one key. -/
def ShadowOk (s : State) : Prop := s.shadow.used ≤ Config.shadowPool ∧ s.shadow.keys.Nodup

/-- The read cursor names an entry of the selected domain's list, or is at the end (R122). -/
def CursorOk (s : State) : Prop :=
  ∀ k, s.shadow.position = some k → ∃ d, s.shadow.selected = some d ∧ holdsKey (s.shadow.list d) k = true

/-- The replay position of a domain in RESTORING names an entry of its list (R113). -/
def ReplayOk (s : State) : Prop :=
  ∀ d k granted, (s.dom d).state = .restoring k granted → holdsKey (s.shadow.list d) k = true

/-- A state is one that has asked for a piece of work, the work granted in its present stay: CHECKING for a probe,
RESTORING at the entry of the key for a replay write (R93, R138; the mark `granted` is log entry 16). -/
def DomState.asked (x : DomState) : MaintenanceWork → Prop
  | .probe => ∃ target, x = .checking target true
  | .replay key => x = .restoring key true

/-- A retry note belongs to a domain that is still in the state that asked for the very work it names (R138). -/
def NotesOk (s : State) : Prop :=
  ∀ d n, s.sport.notes.get d = some n → (s.dom d).state.asked n.work

/-- A configuration record is in its ranges (R75); `mgmt` is the management address. -/
def ConfigOk (mgmt : Byte) (c : DomainConfig) : Prop :=
  c.settleTime ≠ 0 ∧ 1 ≤ c.wakeLimit.toNat ∧ c.wakeLimit.toNat ≤ 4 ∧ 1 ≤ c.recoveryGap.toNat
    ∧ c.recoveryGap.toNat ≤ 16 ∧ ∀ target, c.checkTarget = some target →
      1 ≤ target.toNat ∧ target.toNat ≤ 0x7F ∧ target ≠ mgmt

/-- The attempt number suits the state (R77, R84, R90, R91). -/
def AttemptOk (x : Domain) : Prop :=
  match x.state with
  | .off | .on _ | .warning _ | .draining => x.attempt = 0
  | .cooldown _ => x.attempt ≤ 3 ∧ (x.pendingWake = false → x.attempt = 0)
  | .settling _ | .checking _ _ | .restoring _ _ => 1 ≤ x.attempt ∧ x.attempt ≤ 4
  | .fault => x.attempt ≤ 4

/-- Every setting is in the range its owner gives (R2, R48, R75, R127), and every attempt number suits its state. -/
def SettingsOk (s : State) : Prop :=
  s.uport.setting.ok = true ∧ s.uport.inUse.ok = true
    ∧ (∀ p, s.uport.pendingFormat = some p → p.format.ok = true)
    ∧ s.sport.setting.ok = true ∧ s.sport.inUse.ok = true
    ∧ 4 ≤ s.sport.answerTimeout.toNat ∧ s.sport.retryCount.toNat ≤ 3
    ∧ 1 ≤ s.sport.defaultGap.toNat ∧ s.sport.defaultGap.toNat ≤ 16 ∧ 1 ≤ s.parkLimit.toNat
    ∧ ∀ d, ConfigOk s.mgmtAddress (s.dom d).config ∧ AttemptOk (s.dom d)

/-- The receiver's law (R18 to R20): the frame under assembly suits the receiver's state, and its sum is the sum of
what it holds. -/
def ReceiverOk (s : State) : Prop :=
  let u := s.uport
  u.asm.sum = checkSum (u.asm.header ++ u.asm.payload) ∧
  match u.rx with
  | .hunt | .discard => u.asm = .empty
  | .header => u.asm.header.length < 6 ∧ u.asm.payload = []
  | .payload =>
    u.asm.header.length = 6 ∧ headerUnusable u.asm.header = false
      ∧ u.asm.payload.length < requestPayloadCount (u.asm.header.getD 1 0) (u.asm.header.getD 5 0)
  | .check =>
    u.asm.header.length = 6 ∧ headerUnusable u.asm.header = false
      ∧ u.asm.payload.length = requestPayloadCount (u.asm.header.getD 1 0) (u.asm.header.getD 5 0)

/-- Every entry's tag is a tag, and its payload is as long as its length says for a WRITE, absent otherwise (R36). -/
def EntriesOk (s : State) : Prop :=
  ∀ e ∈ s.entries, e.tag.toNat ≤ 0x0F ∧ e.cmd.payload.length = requestPayloadCount e.cmd.op e.cmd.length

end Sys2Proof.Machine
end

