-- ==== Sys2Proof/Certificates/Slice0/Obligations.lean ====
section
/-! DEFINITION. The statements about the PS416, rule by rule; none is about a program. -/
section Statements
open Sys2Proof Sys2Proof.Machine

/-! ## The machine -/

/-- The command at the front of the queue is taken and run on the state with the rest of the queue. -/
def Obligations.StepRunsFrontCommand : Prop :=
  ∀ (s : State) (c : Instr) (rest : List Instr), s.pending = c :: rest → step s = exec c (s.withPending rest)

/-- With no command waiting a step is one millisecond of time and nothing else (the model's choice, log entry 1): the
park, idle, warning, minimum off and settle timers fall by one and rest at 0, the filters in progress and the idle
periods in progress grow, and so does the time of a frame on UTX. -/
def Obligations.IdleStepPassesOneMillisecond : Prop :=
  ∀ s : State, s.pending = [] →
    ∃ t, step s = .next t ∧ Frame [.uport, .entries, .domains, .pg, .sport, .events] s t
      ∧ (∃ line tx, t.uport = { s.uport with line := line, tx := tx }
          ∧ (∀ idle, s.uport.line = .mark idle → line = .mark (idle + 24000))
          ∧ ((∀ idle, s.uport.line ≠ .mark idle) → line = s.uport.line)
          ∧ tx = s.uport.tx.map fun f => { f with elapsed := f.elapsed + 24000 })
      ∧ (∃ line, t.sport = { s.sport with line := line }
          ∧ (∀ idle, s.sport.line = .mark idle → line = .mark (idle + 24000))
          ∧ ((∀ idle, s.sport.line ≠ .mark idle) → line = s.sport.line))
      ∧ t.entries.length = s.entries.length
      ∧ (∀ (i : Nat) (e : Entry), s.entries[i]? = some e →
          (∀ timer, e.state = .parked timer → t.entries[i]? = some { e with state := .parked (timer - 1) })
            ∧ (e.state.isParked = false → t.entries[i]? = some e))
      ∧ (∀ d, t.dom d = { s.dom d with state := (t.dom d).state }
          ∧ (∀ n, (s.dom d).state = .cooldown n → (t.dom d).state = .cooldown (n - 1))
          ∧ (∀ n, (s.dom d).state = .settling n → (t.dom d).state = .settling (n - 1))
          ∧ (∀ n, (s.dom d).state = .warning n → (t.dom d).state = .warning (n - 1))
          ∧ (∀ n, (s.dom d).state = .on (some n) → (t.dom d).state = .on (some (n - 1)))
          ∧ ((∀ n, (s.dom d).state ≠ .cooldown n ∧ (s.dom d).state ≠ .settling n ∧ (s.dom d).state ≠ .warning n
              ∧ (s.dom d).state ≠ .on (some n)) → (t.dom d).state = (s.dom d).state))
      ∧ (∀ i, t.pg.get i = { s.pg.get i with progress := (s.pg.get i).progress.map (· + 1) })
      ∧ t.events.status = s.events.status ∧ t.events.enable = s.events.enable
      ∧ ∀ i, t.events.inputs.get i =
          { s.events.inputs.get i with
            filter :=
              { level := (s.events.inputs.get i).filter.level
                progress := (s.events.inputs.get i).filter.progress.map (· + 1) } }

/-- No command stops the part, also where its event cannot occur in the present state (the model's choice, log entry 3),
and none touches the commands that wait behind it. -/
def Obligations.EveryCommandAnswersANextState : Prop :=
  ∀ (c : Instr) (s : State), ∃ t, exec c s = .next t ∧ t.pending = s.pending

/-! ## Power-on reset -/

/-- A power-on reset sets every block to its power-on values, samples the straps and the input levels, sets and enables
POWER_UP, asserts ALERT and raises notice-pending; the transmitter's first choice then sends the NOTICE of POWER_UP.
While RESETN is held low ALERT is released, every power line is low, UTX is at mark and SDL is released. -/
def Obligations.PowerOnResetSetsEveryBlock : Prop :=
  ∀ (pins : ResetPins) (s : State), ∃ t, exec (.powerOnReset pins) s = .next t
    ∧ t.pending = s.pending
    ∧ t.uport =
      { line := (match pins.urx with | .mark => .mark 0 | .space => .unseen)
        rx := .hunt, asm := { header := [], payload := [], sum := 0 }, slot := none, noticePending := true, tx := none
        setting := { parity := .even, stop := .one, divisor := 12 }
        inUse := { parity := .even, stop := .one, divisor := 12 }
        pendingFormat := none
        counters :=
          { parity := 0, framing := 0, check := 0, gap := 0, formatCount := 0, overrun := 0, breaks := 0, stray := 0,
            frames := 0, replies := 0, notices := 0 } }
    ∧ t.entries = [] ∧ t.replyQueue = [] ∧ t.parkLimit = 100
    ∧ (∀ i, t.windows.get i =
        { valid := false, permitsRead := false, permitsWrite := false, permitsProbe := false, shadow := false,
          event := false, cls := .passive, domain := some 0, targetBase := 0, targetMask := 0, sizeCode := 0,
          locationBase := 0 } ∧ t.hits.get i = 0)
    ∧ (∀ d, t.dom d =
        { config :=
            { mode := .managed, wakeAllowed := true, polarity := .activeHigh, policy := .strict, pgInput := none,
              checkTarget := none, settleTime := 10, minimumOff := 0, warning := 0, wakeLimit := 1, recoveryGap := 2,
              idleReload := 0 }
          state := .off, attempt := 0, pendingWake := false, cause := .none, wakeCount := 0, failedCount := 0 }
        ∧ t.powerLine d = false ∧ t.shadow.list d = [] ∧ t.shadow.incomplete.get d = false
        ∧ t.sport.notes.get d = none)
    ∧ t.shadow.selected = none ∧ t.shadow.position = none
    ∧ (∀ i : Fin 4, t.pg.get i = { level := pins.pg.get i, progress := none }
        ∧ t.events.inputs.get i =
          { config := { edge := .off, raise := false, activity := 0, wake := 0 }
            filter := { level := pins.ev.get i, progress := none }
            seen := false })
    ∧ t.sport =
      { line := (match pins.sdl with | .mark => .mark 0 | .space => .unseen)
        attempt := none, notes := t.sport.notes, prefer := .maintenance
        setting := { parity := .even, stop := .one, divisor := 12 }
        inUse := { parity := .even, stop := .one, divisor := 12 }
        answerTimeout := 32, retryCount := 1, defaultGap := 2
        counters := { timeouts := 0, naks := 0, lineFaults := 0, answerErrors := 0, exchangesOk := 0 } }
    ∧ (∀ c : EventClass, t.events.status.has c = (c == .powerUp) ∧ t.events.enable.has c = (c == .powerUp))
    ∧ t.alert = true ∧ (t.outputsAt false).alert = true
    ∧ (∀ u : State, (u.outputsAt true).alert = false ∧ (∀ d : DomainId, (u.outputsAt true).power.get d = false)
        ∧ (u.outputsAt true).utxBusy = false ∧ (u.outputsAt true).sdlDriven = false)
    ∧ t.mgmtAddress.toNat = 0x7C + 2 * pins.ma1.toNat + pins.ma0.toNat
    ∧ exec .transmitterChoice t =
      .next (t.withUport
        { t.uport with
          noticePending := false
          tx := some { source := .notice, frame := [0xD6, 0x00, 0x01, 0xFF], elapsed := 0 } })

/-- Every law of this file's invariants holds after a power-on reset, whatever the pins and whatever waits, and so in
State.reset. `State.powerOn` is what the command POWER_ON_RESET leaves. -/
def Obligations.EveryLawHoldsAfterReset : Prop :=
  (∀ (pins : ResetPins) (waiting : List Instr),
      let s := State.powerOn pins waiting
      RequestTableOk s ∧ ParkingOk s ∧ SegmentOk s ∧ ShadowOk s ∧ CursorOk s ∧ ReplayOk s ∧ NotesOk s ∧ SettingsOk s
        ∧ ReceiverOk s ∧ EntriesOk s)
    ∧ State.reset = State.powerOn State.resetPins []
    ∧ ∀ (pins : ResetPins) (s : State), exec (.powerOnReset pins) s = .next (State.powerOn pins s.pending)

/-! ## The upstream receiver -/

/-- R18. In HUNT a good 0xD2 begins a frame; every other character, error-marked ones included, is a stray, counted
and dropped. No gap expiry is taken in HUNT, and a line not seen at mark since the reset gives no character. -/
def Obligations.HuntTakesLeadOrCountsStray : Prop :=
  ∀ (s : State) (data : Byte) (mark : CharMark), s.uport.rx = .hunt →
    (s.uport.line.takesCharacter = true →
      (mark = .good ∧ data = 0xD2 →
        exec (.urxCharacterReceived data mark) s = .next (s.withUport
          { s.uport with
            line := .mark 0, rx := .header, asm := { header := [], payload := [], sum := 0 } }))
      ∧ (¬(mark = .good ∧ data = 0xD2) →
        exec (.urxCharacterReceived data mark) s = .next (s.withUport
          { s.uport with
            line := .afterCharacter mark
            counters := { s.uport.counters with stray := satInc s.uport.counters.stray } })))
    ∧ exec .uportGapExpiry s = .next s
    ∧ (s.uport.line = .unseen → exec (.urxCharacterReceived data mark) s = .next s)

/-- R19, R23. Header characters are taken one by one; at the sixth, and not before, the header is judged: a tag above
0x0F or a WRITE of more than 32 bytes is a FORMAT discard, a WRITE of 1 to 32 bytes goes to PAYLOAD, all else to
CHECK. -/
def Obligations.HeaderIsJudgedAtItsSixthCharacter : Prop :=
  ∀ (s : State) (data : Byte), s.uport.line.takesCharacter = true → s.uport.rx = .header →
    let a := s.uport.asm
    let header := a.header ++ [data]
    let taken : Assembly := { header := header, payload := a.payload, sum := a.sum + data }
    let tag := header.getD 0 0
    let write := header.getD 1 0 = 0x02
    let length := (header.getD 5 0).toNat
    (a.header.length < 5 → exec (.urxCharacterReceived data .good) s =
        .next (s.withUport { s.uport with line := .mark 0, asm := taken }))
    ∧ (a.header.length = 5 →
        ((0x0F < tag.toNat ∨ (write ∧ 32 < length)) →
          ∃ t, exec (.urxCharacterReceived data .good) s = .next t
            ∧ FrameDiscarded s t (.mark 0)
              { s.uport.counters with formatCount := satInc s.uport.counters.formatCount } .discard)
        ∧ (tag.toNat ≤ 0x0F → write → 1 ≤ length → length ≤ 32 → exec (.urxCharacterReceived data .good) s =
            .next (s.withUport { s.uport with line := .mark 0, rx := .payload, asm := taken }))
        ∧ (tag.toNat ≤ 0x0F → (write → length = 0) → exec (.urxCharacterReceived data .good) s =
            .next (s.withUport { s.uport with line := .mark 0, rx := .check, asm := taken })))

/-- R20. In PAYLOAD characters are taken until as many are held as the length gives, and CHECK is entered. In CHECK
the sum decides: 0 counts FRAMES and delivers the frame, any other sum counts CHECK and discards it; the receiver is in
HUNT after both. -/
def Obligations.PayloadThenCheckCharacterJudged : Prop :=
  ∀ (s : State) (data : Byte), s.uport.line.takesCharacter = true →
    let a := s.uport.asm
    let taken : Assembly := { header := a.header, payload := a.payload ++ [data], sum := a.sum + data }
    (s.uport.rx = .payload → a.header.getD 1 0 = 0x02 →
      (a.payload.length + 1 < (a.header.getD 5 0).toNat → exec (.urxCharacterReceived data .good) s =
          .next (s.withUport { s.uport with line := .mark 0, asm := taken }))
      ∧ (a.payload.length + 1 = (a.header.getD 5 0).toNat → exec (.urxCharacterReceived data .good) s =
          .next (s.withUport { s.uport with line := .mark 0, rx := .check, asm := taken })))
    ∧ (s.uport.rx = .check →
      (a.sum + data = 0 → ∃ t, exec (.urxCharacterReceived data .good) s = .next t
          ∧ t = announce s (s.delivered.admission (a.header.getD 0 0) (headerCommand a.header a.payload))
          ∧ t.uport.rx = .hunt ∧ t.uport.asm = { header := [], payload := [], sum := 0 }
          ∧ t.uport.counters.frames = satInc s.uport.counters.frames)
      ∧ (a.sum + data ≠ 0 → ∃ t, exec (.urxCharacterReceived data .good) s = .next t
          ∧ FrameDiscarded s t (.mark 0) { s.uport.counters with check := satInc s.uport.counters.check } .hunt))

/-- R21, R22. Inside a frame an error-marked character discards it into DISCARD, counting PARITY or FRAMING; a gap
expiry, URX idle for more than 8 character times, discards it into HUNT, counting GAP. Both set LINK_ERROR. -/
def Obligations.ErrorMarkOrGapDiscardsFrame : Prop :=
  ∀ s : State, (s.uport.rx = .header ∨ s.uport.rx = .payload ∨ s.uport.rx = .check) →
    (∀ data, s.uport.line.takesCharacter = true →
      (∃ t, exec (.urxCharacterReceived data .parity) s = .next t
        ∧ FrameDiscarded s t (.mark 0) { s.uport.counters with parity := satInc s.uport.counters.parity } .discard)
      ∧ ∀ level, ∃ t, exec (.urxCharacterReceived data (.framing level)) s = .next t
        ∧ FrameDiscarded s t (match level with | .mark => .mark 0 | .space => .held)
          { s.uport.counters with framing := satInc s.uport.counters.framing } .discard)
    ∧ ∀ idle, s.uport.line = .mark idle → s.uport.inUse.charCycles 8 < idle →
      ∃ t, exec .uportGapExpiry s = .next t
      ∧ FrameDiscarded s t (.mark idle) { s.uport.counters with gap := satInc s.uport.counters.gap } .hunt

/-- R24. In DISCARD every character is dropped, with no counter and no event; the receiver leaves for HUNT when URX has
been idle for 8 character times, or by way of a break. No gap expiry is taken. A start edge ends the idle period. -/
def Obligations.DiscardDropsUntilIdleOrBreak : Prop :=
  ∀ s : State, s.uport.rx = .discard →
    (∀ data mark, s.uport.line.takesCharacter = true → exec (.urxCharacterReceived data mark) s =
        .next (s.withUport { s.uport with line := .afterCharacter mark }))
    ∧ (∀ idle, s.uport.line = .mark idle →
        (s.uport.inUse.charCycles 8 ≤ idle → exec .discardEnd s =
          .next (s.withUport { s.uport with rx := .hunt, asm := { header := [], payload := [], sum := 0 } }))
        ∧ exec (.startEdge .urx) s = .next (s.withUport { s.uport with line := .space }))
    ∧ (s.uport.line.isIdle = false → exec .discardEnd s = .next s)
    ∧ exec .uportGapExpiry s = .next s
    ∧ (s.uport.line = .held →
        ∃ t u, exec .upstreamBreak s = .next t ∧ exec .breakEnd t = .next u ∧ u.uport.rx = .hunt)

/-- A start edge on either line ends the idle period in progress; the line's return to mark after a space that was not a
break begins one, measured from zero. Nothing else changes. An idle period is in progress at mark alone, a character is
taken at mark or in a space begun by its start edge, and it leaves the line at mark but for a framing error that leaves
it held at space (section 1.3; the line states are the model's, log entry 5). -/
def Obligations.EdgesEndAndBeginIdlePeriods : Prop :=
  (∀ line : LineState,
    (line.isIdle = true ↔ ∃ idle, line = .mark idle)
      ∧ (line.takesCharacter = true ↔ (∃ idle, line = .mark idle) ∨ line = .space))
  ∧ ([CharMark.good, .parity, .framing .mark, .framing .space].map LineState.afterCharacter =
      [.mark 0, .mark 0, .mark 0, .held])
  ∧ ∀ s : State,
    (∀ idle, s.uport.line = .mark idle →
      exec (.startEdge .urx) s = .next (s.withUport { s.uport with line := .space })
        ∧ exec (.returnToMark .urx) s = .next s)
    ∧ (∀ idle, s.sport.line = .mark idle →
      exec (.startEdge .sdl) s = .next (s.withSport { s.sport with line := .space })
        ∧ exec (.returnToMark .sdl) s = .next s)
    ∧ (s.uport.line = .space ∨ s.uport.line = .held ∨ s.uport.line = .unseen →
      exec (.returnToMark .urx) s = .next (s.withUport { s.uport with line := .mark 0 })
        ∧ exec (.startEdge .urx) s = .next s)
    ∧ (s.sport.line = .space ∨ s.sport.line = .held ∨ s.sport.line = .unseen →
      exec (.returnToMark .sdl) s = .next (s.withSport { s.sport with line := .mark 0 })
        ∧ exec (.startEdge .sdl) s = .next s)

/-- R5, R8, R32, R33. A break is taken only in a space whose character has completed with a framing error and left the
line at space, whatever the character's data (the model's choice for a space that began inside the character, log entry
22), once; a line held so gives no further character, on URX or on SDL, until it returns to mark. The break abandons the
frame under assembly, stops the frame on UTX, empties the refusal slot, clears notice-pending and raises it again where
the classes set and enabled, LINK_ERROR and the DOMAIN_DOWN of a drain the break completes with them, go from empty to
non-empty (log entry 12), takes up a pending format, counts BREAK and sets LINK_ERROR; counters, formats and event sets
stand otherwise. The model has the receiver in HUNT from the break on (log entry 6); no character and no second break is
taken until URX returns to mark, and it is in HUNT then. -/
def Obligations.BreakClearsTheUport : Prop :=
  (∀ (s : State) (data : Byte), s.uport.line.takesCharacter = true →
    ∃ t, exec (.urxCharacterReceived data (.framing .space)) s = .next t ∧ t.uport.line = .held)
  ∧ (∀ s : State, s.uport.line ≠ .held → exec .upstreamBreak s = .next s)
  ∧ (∀ (s : State) (data : Byte) (mark : CharMark),
      (s.uport.line = .held → exec (.urxCharacterReceived data mark) s = .next s)
      ∧ (s.sport.line = .held →
        exec (.answerCharacterReceived data mark) s = .next s ∧ exec .answerCharacterStart s = .next s))
  ∧ (∀ s : State, s.uport.line = .held → ∃ t, exec .upstreamBreak s = .next t
    ∧ t.uport =
      { s.uport with
        line := .broken, rx := .hunt, asm := { header := [], payload := [], sum := 0 }, tx := none, slot := none
        noticePending := s.events.live == 0 && t.events.live != 0
        inUse := (match s.uport.pendingFormat with | some p => p.format | none => s.uport.inUse)
        pendingFormat := none
        counters := { s.uport.counters with breaks := satInc s.uport.counters.breaks } }
    ∧ t.events.status.has .linkError = true ∧ t.events.enable = s.events.enable
    ∧ (∀ c, c ≠ .linkError → c ≠ .domainDown → t.events.status.has c = s.events.status.has c)
    ∧ t.sport.setting = s.sport.setting ∧ t.sport.inUse = s.sport.inUse)
  ∧ ∀ s : State, s.uport.line = .broken →
    exec .breakEnd s = .next (s.withUport
      { s.uport with line := .mark 0, rx := .hunt, asm := { header := [], payload := [], sum := 0 } })
    ∧ exec .upstreamBreak s = .next s
    ∧ ∀ data mark, exec (.urxCharacterReceived data mark) s = .next s

/-- A break discards every entry and empties the reply queue; an ENTRY attempt in progress becomes an ORPHAN that keeps
its command, domain and shadow flag; a DRAINING domain left with no work in progress powers down, and nothing else
happens to any domain. Windows, hit counters, shadow store, settings, inputs and straps stand (sections 2.5, 3.8). -/
def Obligations.BreakDiscardsEveryEntry : Prop :=
  ∀ s : State, s.uport.line = .held → ∃ t, exec .upstreamBreak s = .next t
    ∧ t.entries = [] ∧ t.replyQueue = []
    ∧ Frame [.uport, .entries, .replyQueue, .sport, .domains, .events] s t
    ∧ t.events.inputs = s.events.inputs
    ∧ (∀ a tag, s.sport.attempt = some a → a.exchange.originator = .entry tag →
        t.sport =
          { s.sport with attempt := some { a with exchange := { a.exchange with originator := .orphan } } })
    ∧ ((∀ a, s.sport.attempt = some a → ∀ tag, a.exchange.originator ≠ .entry tag) → t.sport = s.sport)
    ∧ (∀ d, (Drains s t d → t.dom d = (s.dom d).cooled) ∧ (¬Drains s t d → t.dom d = s.dom d))
    ∧ (∀ c, t.events.status.has c = true ↔
        (s.events.status.has c = true ∨ c = .linkError ∨ (c = .domainDown ∧ ∃ d, Drains s t d)))

/-! ## The transmitter -/

/-- R28. The transmitter, where it is FREE, takes the refusal in the slot, else a NOTICE where notice-pending is set,
else the entry at the head of the reply queue; a frame in progress is not interrupted. -/
def Obligations.TransmitterChoosesByPriority : Prop :=
  ∀ s : State,
    (s.uport.tx = none → ∃ t, exec .transmitterChoice s = .next t ∧ Chosen s t)
    ∧ (s.uport.tx ≠ none → exec .transmitterChoice s = .next s)

/-- R29, R30, R31. When the last character of a frame has gone: a refusal's slot is emptied and REPLIES counted; a
reply's entry and tag are freed, REPLIES counted, and a format pending for that reply taken up; a NOTICE counts NOTICES.
The transmitter is FREE and the next choice is made in the same event. -/
def Obligations.EndOfAFrameFreesAndChooses : Prop :=
  ∀ s : State,
    (∀ source, s.uport.sending = some source ↔ ∃ f, s.uport.tx = some f ∧ f.source = source)
    ∧ (s.uport.sending = some .refusal → ∃ t, exec .refusalSent s = .next t
      ∧ Chosen
        (s.withUport
          { s.uport with
            tx := none, slot := none
            counters := { s.uport.counters with replies := satInc s.uport.counters.replies } })
        t)
    ∧ (∀ tag, s.uport.sending = some (.reply tag) → ∃ t, exec .replySent s = .next t
      ∧ Chosen
        ((s.withUport
            { s.uport with
              tx := none
              inUse :=
                (match s.uport.pendingFormat with
                  | some p => if p.tag = tag then p.format else s.uport.inUse
                  | none => s.uport.inUse)
              pendingFormat :=
                (match s.uport.pendingFormat with
                  | some p => if p.tag = tag then none else some p
                  | none => none)
              counters := { s.uport.counters with replies := satInc s.uport.counters.replies } }).withEntries
          (s.entries.filter fun e => e.tag != tag))
        t)
    ∧ (s.uport.sending = some .notice → ∃ t, exec .noticeSent s = .next t
      ∧ Chosen
        (s.withUport
          { s.uport with
            tx := none
            counters := { s.uport.counters with notices := satInc s.uport.counters.notices } })
        t)

/-- R1, R3, R5, R10, R11, R15, R16, R145. Characters and frames. A character time is 10, 11 or 12 bit times of 16 ×
(divisor + 1) cycles of the reference clock. A character is sent as a start bit at space, eight data bits, least
significant first, the parity bit of its format and its stop bits at mark, and its samples, judged in that format, give
its data with no error mark. Samples with a stop bit at space are a framing error, which carries the level the last of
them leaves (log entry 5); with every stop bit at mark, a count of ones over data and parity bit that is not even (EVEN)
or odd (ODD) is a parity error. A check sum is the sum of the characters modulo 256, and every frame made is
check-valid. The classes have the numbers 0 to 14 of R145; a set holds class n at its bit n, and setting a class adds
that one. The event characters carry class n at the bit R16 gives, with bit 7 of the high one 0. The NOTICE, the reply,
the refusal and the segment command have the characters of R10 in its order, and the sixteen status codes are those of
R15. -/
def Obligations.CharactersAndFramesReadBack : Prop :=
  (∀ (f : Format) (n : Nat), f.charCycles n =
      n * (match f.parity, f.stop with
        | .none, .one => 10
        | .none, .two => 11
        | .even, .one | .odd, .one => 11
        | .even, .two | .odd, .two => 12) * (16 * (f.divisor.toNat + 1)))
    ∧ (∀ (f : Format) (b : Byte), judgeSamples f (characterLevels f b).tail = (b, .good)
        ∧ (characterLevels f b).head? = some .space
        ∧ (characterLevels f b).length * (16 * (f.divisor.toNat + 1)) = f.charCycles 1)
    ∧ (∀ (f : Format) (b : Byte) (parity stops : List Level),
        parity.length = (match f.parity with | .none => 0 | .even => 1 | .odd => 1) →
        stops.length = (match f.stop with | .one => 1 | .two => 2) →
        let data : List Level := (List.range 8).map fun k => if b.getLsbD k then .mark else .space
        let ones := (data ++ parity).count .mark
        let judged := judgeSamples f (data ++ parity ++ stops)
        (.space ∈ stops → ∀ last ∈ stops.getLast?, judged = (b, .framing last))
          ∧ (.space ∉ stops → (f.parity = .even ∧ ones % 2 = 1) ∨ (f.parity = .odd ∧ ones % 2 = 0) →
            judged = (b, .parity))
          ∧ (.space ∉ stops → f.parity = .none ∨ (f.parity = .even ∧ ones % 2 = 0) ∨ (f.parity = .odd ∧ ones % 2 = 1) →
            judged = (b, .good)))
    ∧ (∀ bytes : List Byte, checkSum bytes = BitVec.ofNat 8 (bytes.map BitVec.toNat).sum)
    ∧ (∀ (lead : Byte) (body : List Byte),
        checkValid (makeFrame lead body) = true ∧ (checkValid (lead :: body) = true ↔ checkSum body = 0))
    ∧ [Status.ok, .noWindow, .denied, .busy, .tagConflict, .badRequest, .domainOff, .domainFault, .retry, .targetNak,
        .noResponse, .lineFault, .answerError, .aborted, .refused, .invalid].map Status.code =
      [0x00, 0x01, 0x02, 0x03, 0x04, 0x05, 0x06, 0x07, 0x08, 0x09, 0x0A, 0x0B, 0x0C, 0x0D, 0x0E, 0x0F]
    ∧ (RefusalCause.busy.status = .busy ∧ RefusalCause.tagConflict.status = .tagConflict)
    ∧ [EventClass.powerUp, .linkError, .overrun, .windowHit, .domainWarning, .domainDown, .domainUp, .domainFault,
        .wakeRetry, .restoreSkip, .shadowIncomplete, .parkExpired, .segmentError, .extInput, .mgmtError].map
          EventClass.number = [0, 1, 2, 3, 4, 5, 6, 7, 8, 9, 10, 11, 12, 13, 14]
    ∧ (∀ (e : EventSet) (c k : EventClass),
        e.has c = e.getLsbD c.number ∧ ((e ||| c.bit).has k = true ↔ e.has k = true ∨ k = c))
    ∧ (∀ c : Command,
        let body := [c.op, c.target, BitVec.ofNat 8 (c.location.toNat / 256), BitVec.ofNat 8 (c.location.toNat % 256),
          c.length] ++ (if c.op = 0x02 then c.payload else [])
        segmentFrame c = 0xB4 :: (body ++ [0 - checkSum body]))
    ∧ (∀ e : EventSet, noticeFrame e = [0xD6, eventHigh e, eventLow e, 0 - (eventHigh e + eventLow e)]
        ∧ (eventHigh e).getLsbD 7 = false
        ∧ ∀ c : EventClass, charactersName (eventHigh e) (eventLow e) c = e.has c)
    ∧ (∀ (tag : Byte) (status : Status) (payload : List Byte), payload.length ≤ 32 →
        replyFrame tag status payload =
          0xD3 :: tag :: status.code :: BitVec.ofNat 8 payload.length
            :: (payload ++ [0 - checkSum ([tag, status.code, BitVec.ofNat 8 payload.length] ++ payload)]))
    ∧ ∀ r : SlotRefusal, refusalFrame r =
        [0xD3, r.tag, r.cause.status.code, 0, 0 - (r.tag + r.cause.status.code)]

/-! ## Admission -/

/-- R27. A delivered frame that meets 16 occupied entries, or else an occupied entry with its tag, makes no entry: its
refusal goes to the empty slot, or, the slot being occupied, it is an overrun, counted and set as OVERRUN, and the slot
keeps its refusal. -/
def Obligations.RefusedFrameTakesSlotOrIsOverrun : Prop :=
  ∀ (s : State) (data tag : Byte) (c : Command) (cause : RefusalCause), AtDelivery s data tag c →
    ((16 ≤ s.entries.length ∧ cause = .busy)
      ∨ (s.entries.length < 16 ∧ (∃ e ∈ s.entries, e.tag = tag) ∧ cause = .tagConflict)) →
    (s.uport.slot = none → exec (.urxCharacterReceived data .good) s =
      .next (s.delivered.withUport { s.delivered.uport with slot := some { tag := tag, cause := cause } }))
    ∧ (s.uport.slot ≠ none → ∃ t, exec (.urxCharacterReceived data .good) s = .next t
      ∧ Frame [.uport, .events] s t ∧ RaisedOnly s t [.overrun]
      ∧ t.uport =
        { s.delivered.uport with
          counters := { s.delivered.uport.counters with overrun := satInc s.uport.counters.overrun }
          noticePending := noticeAfter s t })

/-- R39, R40. A malformed request is given an entry DONE with BAD_REQUEST, in the reply queue at once; a well-formed one
to the management address is given a LOCAL entry. Neither has a snapshot, and no window, hit counter, event or domain
takes part. What is malformed is R39's list. -/
def Obligations.MalformedAndManagementRequests : Prop :=
  (∀ c : Command, malformed c = true ↔
      (c.op ≠ 0x01 ∧ c.op ≠ 0x02 ∧ c.op ≠ 0x03)
        ∨ c.target = 0x00 ∨ 0x80 ≤ c.target.toNat
        ∨ (c.op = 0x01 ∧ (c.length = 0 ∨ 32 < c.length.toNat))
        ∨ (c.op = 0x02 ∧ c.length = 0)
        ∨ (c.op = 0x03 ∧ c.length ≠ 0)
        ∨ 0xFFFF < c.location.toNat + c.length.toNat - 1)
    ∧ ∀ (s : State) (data tag : Byte) (c : Command), AtDelivery s data tag c → s.entries.length < 16 →
      (∀ e ∈ s.entries, e.tag ≠ tag) →
      (malformed c = true → exec (.urxCharacterReceived data .good) s =
        .next ((s.delivered.withEntries (s.entries ++ [newEntry tag c none (.done .badRequest [])])).withReplyQueue
          (s.replyQueue ++ [tag])))
      ∧ (malformed c = false → c.target = s.mgmtAddress → exec (.urxCharacterReceived data .good) s =
        .next (s.delivered.withEntries (s.entries ++ [newEntry tag c none .waitingLocal])))

/-- R59, R60, R61. A window covers a well-formed request where it is valid, its target agrees with the base at
every bit the mask does not ignore, and the range lies in the aligned block of 2^s locations; the matched window is the
one of lowest index that covers. -/
def Obligations.WindowsCoverAndMatch : Prop :=
  (∀ (w : Window) (c : Command), malformed c = false →
      let first := w.locationBase.toNat - w.locationBase.toNat % 2 ^ w.sizeCode.val
      (w.covers c = true ↔
        w.valid = true
          ∧ (∀ i < 7, w.targetMask.getLsbD i = false → c.target.getLsbD i = w.targetBase.getLsbD i)
          ∧ first ≤ c.location.toNat
          ∧ c.location.toNat + (if c.op = 0x03 then 0 else c.length.toNat - 1) ≤ first + 2 ^ w.sizeCode.val - 1))
    ∧ ∀ (s : State) (c : Command),
      (∀ i, s.matchedWindow c = some i ↔
        ((s.windows.get i).covers c = true ∧ ∀ j < i, (s.windows.get j).covers c = false))
      ∧ (s.matchedWindow c = none ↔ ∀ i, (s.windows.get i).covers c = false)

/-- R57, R63, R64. A window permits READ, WRITE and PROBE each by its own flag, and no other operation. With no covering
window the entry is DONE with NO_WINDOW and nothing is counted. With a matched window
that does not permit the operation it is DONE with DENIED; the window's hit counter rises, and WINDOW_HIT is set where
its event flag is. -/
def Obligations.UncoveredOrDeniedRequest : Prop :=
  (∀ (w : Window) (op : Byte), w.permits op = true ↔
      (op = 0x01 ∧ w.permitsRead = true) ∨ (op = 0x02 ∧ w.permitsWrite = true) ∨ (op = 0x03 ∧ w.permitsProbe = true))
  ∧ ∀ (s : State) (data tag : Byte) (c : Command), AtDelivery s data tag c → Forwarded s tag c →
    (s.matchedWindow c = none → exec (.urxCharacterReceived data .good) s =
      .next ((s.delivered.withEntries (s.entries ++ [newEntry tag c none (.done .noWindow [])])).withReplyQueue
        (s.replyQueue ++ [tag])))
    ∧ ∀ i, s.matchedWindow c = some i → (s.windows.get i).permits c.op = false →
      ∃ t, exec (.urxCharacterReceived data .good) s = .next t
        ∧ Frame [.uport, .entries, .replyQueue, .hits, .events] s t
        ∧ t.entries = s.entries ++ [newEntry tag c none (.done .denied [])]
        ∧ t.replyQueue = s.replyQueue ++ [tag]
        ∧ t.hits = s.hits.set i (satInc (s.hits.get i))
        ∧ RaisedOnly s t (if (s.windows.get i).event then [.windowHit] else [])
        ∧ t.uport = { s.delivered.uport with noticePending := noticeAfter s t }

/-- R67, R79. A permitted request is given an entry with the window's domain, class and shadow flag as its snapshot.
For domain NONE it is QUEUED. For a domain the arrival table decides the entry and what the domain takes: activity, a
wake, or pending wake. A PARKED entry's timer is the park limit. -/
def Obligations.ArrivalTableDecidesTheEntry : Prop :=
  ∀ (s : State) (data tag : Byte) (c : Command) (i : Fin 32), AtDelivery s data tag c → Forwarded s tag c →
    s.matchedWindow c = some i → (s.windows.get i).permits c.op = true →
    let w := s.windows.get i
    let snap : Snapshot := { window := i, domain := w.domain, cls := w.cls, shadow := w.shadow }
    let parked : EntryState := .parked (s.parkLimit.toNat * 10)
    ∃ t made, exec (.urxCharacterReceived data .good) s = .next t
      ∧ Frame [.uport, .entries, .replyQueue, .hits, .domains, .events] s t
      ∧ t.entries = s.entries ++ [newEntry tag c (some snap) made]
      ∧ t.replyQueue = s.replyQueue ++ (if made.isDone then [tag] else [])
      ∧ t.hits = s.hits.set i (satInc (s.hits.get i))
      ∧ RaisedOnly s t (if w.event then [.windowHit] else [])
      ∧ t.uport = { s.delivered.uport with noticePending := noticeAfter s t }
      ∧ (w.domain = none → made = .queued ∧ t.domains = s.domains)
      ∧ ∀ d, w.domain = some d →
        let x := s.dom d
        OtherDomainsKept [d] s t
          ∧ (x.state = .fault → made = .done .domainFault [] ∧ t.dom d = x)
          ∧ (x.state.takesActivity = true →
              made = .queued ∧ (w.cls = .passive → t.dom d = x) ∧ (w.cls ≠ .passive → t.dom d = x.active))
          ∧ (w.cls ≠ .wake → x.state.takesActivity = false → x.state ≠ .fault →
              made = .done .domainOff [] ∧ t.dom d = x)
          ∧ (w.cls = .wake → x.state.inAttempt = true → made = parked ∧ t.dom d = x)
          ∧ (w.cls = .wake → x.state = .draining →
              (x.config.wakeAllowed = true → made = parked ∧ t.dom d = x.willWake)
                ∧ (x.config.wakeAllowed = false → made = .done .domainOff [] ∧ t.dom d = x))
          ∧ (w.cls = .wake → x.state = .off →
              (x.config.wakeAllowed = true → made = parked ∧ t.dom d = x.woken)
                ∧ (x.config.wakeAllowed = false → made = .done .domainOff [] ∧ t.dom d = x))
          ∧ (∀ n, w.cls = .wake → x.state = .cooldown n →
              (x.pendingWake = true ∨ x.config.wakeAllowed = true → made = parked ∧ t.dom d = x.willWake)
                ∧ (x.pendingWake = false → x.config.wakeAllowed = false →
                    made = .done .domainOff [] ∧ t.dom d = x))

/-- R50. When a parked entry's timer runs out the entry becomes DONE with RETRY and joins the reply queue, PARK_EXPIRED
is set, and the domain is not told; its parked count falls by one. -/
def Obligations.ParkTimerExpiryAnswersRetry : Prop :=
  ∀ (s : State) (e : Entry) (d : DomainId), (s.entries.map (·.tag)).Nodup → e ∈ s.entries →
    e.state = .parked 0 → e.domain? = some d →
    ∃ t, exec (.parkTimerExpiry e.tag) s = .next t
      ∧ Answered s t e.tag .retry [] ∧ RaisedOnly s t [.parkExpired] ∧ UportKept s t
      ∧ Frame [.entries, .replyQueue, .events, .uport] s t
      ∧ (t.entries.filter fun x => x.state.isParked && x.domain? == some d).length + 1 =
        (s.entries.filter fun x => x.state.isParked && x.domain? == some d).length

/-- R43, R44, R66. Whatever is taken, an entry that stays keeps its request and its snapshot, and an entry once DONE
stays as it is. An entry leaves the table only when the last character of the reply with its tag has been sent, or by a
break or a power-on reset. An entry's domain is its snapshot's, and its state is one of LOCAL, QUEUED, PARKED, ACTIVE
and DONE (R36). -/
def Obligations.EntriesKeepRequestAndDoneIsFinal : Prop :=
  (∀ e : Entry,
    (e.state.isLocal = true ↔ e.state = .waitingLocal) ∧ (e.state.isQueued = true ↔ e.state = .queued)
      ∧ (e.state.isParked = true ↔ ∃ timer, e.state = .parked timer)
      ∧ (e.state.isActive = true ↔ ∃ abort, e.state = .active abort)
      ∧ (e.state.isDone = true ↔ ∃ status reply, e.state = .done status reply)
      ∧ ∀ d, e.domain? = some d ↔ ∃ snap, e.snapshot = some snap ∧ snap.domain = some d)
  ∧ (∀ (s : State) (tag : Byte) (e : Entry), (s.entries.map (·.tag)).Nodup →
    (s.entry? tag = some e ↔ e ∈ s.entries ∧ e.tag = tag))
  ∧ (∀ (c : Instr) (s t : State) (e x : Entry), RequestTableOk s → exec c s = .next t → e ∈ s.entries → x ∈ t.entries →
    x.tag = e.tag →
    x.cmd = e.cmd ∧ x.snapshot = e.snapshot ∧ (e.state.isDone = true → x = e))
  ∧ ∀ (c : Instr) (s t : State) (e : Entry), exec c s = .next t → e ∈ s.entries → c ≠ .upstreamBreak →
    (∀ pins, c ≠ .powerOnReset pins) → ¬(c = .replySent ∧ s.uport.sending = some (.reply e.tag)) →
    ∃ x ∈ t.entries, x.tag = e.tag

/-! ## Domain timers -/

/-- R80, R81, R83, R84, whatever the running timer shows when its expiry is taken (the model's choice, log entry 2).
Idle expiry: a MANAGED domain enters WARNING, or with a warning period of 0 passes into DRAINING,
and DOMAIN_WARNING is set; a HELD one stays ON with its timer stopped. Warning expiry: DRAINING. A domain entering
DRAINING with no work in progress powers down at once with DOMAIN_DOWN. Minimum off expiry: SETTLING with the attempt
number raised where pending wake is set, else OFF. -/
def Obligations.TimerExpiriesMoveTheDomain : Prop :=
  ∀ (s : State) (d : DomainId),
    let x := s.dom d
    (∀ n, x.state = .on (some n) → x.config.mode = .heldMode →
      exec (.idleExpiry d) s = .next (s.setDom d { x with state := .on none }))
    ∧ (∀ n, x.state = .on (some n) → x.config.mode = .managed →
      ∃ t, exec (.idleExpiry d) s = .next t ∧ Frame [.uport, .domains, .events] s t ∧ UportKept s t
        ∧ OtherDomainsKept [d] s t
        ∧ (x.config.warning ≠ 0 →
            t.dom d = { x with state := .warning (x.config.warning.toNat * 10) } ∧ RaisedOnly s t [.domainWarning])
        ∧ (x.config.warning = 0 → NoWork s d →
            t.dom d = x.cooled ∧ RaisedOnly s t [.domainWarning, .domainDown])
        ∧ (x.config.warning = 0 → ¬NoWork s d →
            t.dom d = { x with state := .draining } ∧ RaisedOnly s t [.domainWarning]))
    ∧ (∀ n, x.state = .warning n →
      ∃ t, exec (.warningExpiry d) s = .next t ∧ Frame [.uport, .domains, .events] s t ∧ UportKept s t
        ∧ OtherDomainsKept [d] s t
        ∧ (NoWork s d → t.dom d = x.cooled ∧ RaisedOnly s t [.domainDown])
        ∧ (¬NoWork s d → t.dom d = { x with state := .draining } ∧ RaisedOnly s t []))
    ∧ (∀ n, x.state = .cooldown n →
      (x.pendingWake = true → exec (.minimumOffExpiry d) s =
        .next (s.setDom d { x with state := .settling x.config.settleTime.toNat, attempt := x.attempt + 1 }))
      ∧ (x.pendingWake = false → exec (.minimumOffExpiry d) s = .next (s.setDom d { x with state := .off })))

/-- R87. Settle expiry: with the assigned power-good input low the attempt fails with PG_LOW; otherwise the domain
enters CHECKING with the check target as its probe target, or, with no check target, RESTORING. -/
def Obligations.SettleExpiryDecidesTheAttempt : Prop :=
  ∀ (s : State) (d : DomainId), (s.dom d).state = .settling 0 →
    let low := ∃ i, (s.dom d).config.pgInput = some i ∧ (s.pg.get i).level = false
    (low → ∃ t, exec (.settleExpiry d) s = .next t
      ∧ AttemptFailed s t d .pgLow ∧ UportKept s t
      ∧ t.sport = { s.sport with notes := s.sport.notes.set d none }
      ∧ Frame [.uport, .entries, .replyQueue, .domains, .sport, .events] s t)
    ∧ (¬low → ∀ target, (s.dom d).config.checkTarget = some target →
      exec (.settleExpiry d) s = .next (s.setDom d { s.dom d with state := .checking target false }))
    ∧ (¬low → (s.dom d).config.checkTarget = none → ∃ t, exec (.settleExpiry d) s = .next t
      ∧ EnteredRestoring s t d ∧ UportKept s t
      ∧ Frame [.uport, .entries, .domains, .events] s t)

/-! ## Inputs -/

/-- R94, R95; a filtered change is taken at any progress of the filter (log entry 2), is nothing with none (log entry
3), and answers the entries of several domains in arrival order (log entry 11). A raw change of a power-good input away
from its filtered level starts the filter's progress and a return ends it. A filtered change takes the new level; a
rising acts on nothing; a falling sends each domain assigned to the input, by its own state, to FAULT with POWER_LOST
(ON, WARNING, DRAINING), to a failed attempt with PG_LOW (CHECKING, RESTORING), or nowhere; every entry waiting for a
domain that entered FAULT is DONE with DOMAIN_FAULT in arrival order. The retry note of a domain that the falling does
not act on stays, and that of one it acts on is cleared. -/
def Obligations.PowerGoodFallingActsByState : Prop :=
  ∀ (s : State) (i : Fin 4),
    let f := s.pg.get i
    (∀ high, exec (.powerGoodChange i high) s = .next (s.withPg (s.pg.set i
        { level := f.level, progress := if high = f.level then none else some (f.progress.getD 0) })))
    ∧ (f.progress ≠ none → f.level = false → exec (.powerGoodFilteredChange i) s =
        .next (s.withPg (s.pg.set i { level := true, progress := none })))
    ∧ (f.progress = none → exec (.powerGoodFilteredChange i) s = .next s)
    ∧ (f.progress ≠ none → f.level = true → ∃ t, exec (.powerGoodFilteredChange i) s = .next t
        ∧ t.pg = s.pg.set i { level := false, progress := none }
        ∧ Frame [.uport, .entries, .replyQueue, .domains, .pg, .sport, .events] s t
        ∧ UportKept s t
        ∧ (∀ d, (s.dom d).config.pgInput ≠ some i →
            t.dom d = s.dom d ∧ t.sport.notes.get d = s.sport.notes.get d)
        ∧ (∀ d, (s.dom d).config.pgInput = some i →
            let x := s.dom d
            (x.state.inService = true →
              t.dom d = { x with state := .fault, cause := .powerLost, pendingWake := false }
                ∧ t.sport.notes.get d = none)
            ∧ ((∃ p g, x.state = .checking p g) ∨ (∃ k g, x.state = .restoring k g) →
              (x.attempt < x.config.wakeLimit.toNat →
                t.dom d = Domain.cooled { x with failedCount := satInc x.failedCount, pendingWake := true })
              ∧ (x.config.wakeLimit.toNat ≤ x.attempt →
                t.dom d =
                  { x with
                    failedCount := satInc x.failedCount, state := .fault, cause := .pgLow, pendingWake := false })
              ∧ t.sport.notes.get d = none)
            ∧ ((∃ n, x.state = .settling n) ∨ x.state = .off ∨ (∃ n, x.state = .cooldown n) ∨ x.state = .fault →
              t.dom d = x ∧ t.sport.notes.get d = s.sport.notes.get d))
        ∧ (let ends := fun (e : Entry) =>
            (e.state.isQueued || e.state.isParked) &&
              allDomains.any fun d => e.domain? == some d && !(s.dom d).state.isFault && (t.dom d).state.isFault
          t.entries = s.entries.map (fun e => if ends e then { e with state := .done .domainFault [] } else e)
            ∧ t.replyQueue = s.replyQueue ++ (s.entries.filter ends).map (·.tag))
        ∧ t.sport = { s.sport with notes := t.sport.notes }
        ∧ t.events.enable = s.events.enable ∧ t.events.inputs = s.events.inputs
        ∧ ∀ c, t.events.status.has c = true ↔
            (s.events.status.has c = true
              ∨ (c = .domainFault ∧ ∃ d, (s.dom d).state ≠ .fault ∧ (t.dom d).state = .fault)
              ∨ (c = .wakeRetry ∧ ∃ d, (s.dom d).config.pgInput = some i
                ∧ ((∃ p g, (s.dom d).state = .checking p g) ∨ ∃ k g, (s.dom d).state = .restoring k g)
                ∧ (s.dom d).attempt < (s.dom d).config.wakeLimit.toNat)))

/-- R154, R155, R156; a filtered change is taken at any progress of the filter (log entry 2) and is nothing with none
(log entry 3). A raw change of an external input away from its filtered level starts the filter's progress and a
return ends it. A filtered change is an edge. An edge the selection does not select changes the level alone. A selected
one sets the edge-seen mark, sets EXT_INPUT where raise event is yes, and gives each domain in the activity set an
activity action and each in the wake set a wake action, by the domain's own state. -/
def Obligations.SelectedEdgeActs : Prop :=
  ∀ (s : State) (i : Fin 4),
    let x := s.events.inputs.get i
    let up := !x.filter.level
    let selected :=
      x.config.edge = .both ∨ (x.config.edge = .rising ∧ up = true) ∨ (x.config.edge = .falling ∧ up = false)
    let changed (seen : Bool) : ExtInput :=
      { config := x.config, filter := { level := up, progress := none }, seen := seen }
    (∀ high, exec (.extInputChange i high) s = .next (s.withEvents
        { s.events with
          inputs := s.events.inputs.set i
            { x with
              filter :=
                { level := x.filter.level
                  progress := if high = x.filter.level then none else some (x.filter.progress.getD 0) } } }))
    ∧ (x.filter.progress = none → exec (.filteredChange i) s = .next s)
    ∧ (x.filter.progress ≠ none → ¬selected → exec (.filteredChange i) s =
        .next (s.withEvents { s.events with inputs := s.events.inputs.set i (changed x.seen) }))
    ∧ (x.filter.progress ≠ none → selected → ∃ t, exec (.filteredChange i) s = .next t
        ∧ Frame [.uport, .domains, .events] s t ∧ UportKept s t
        ∧ t.events.inputs = s.events.inputs.set i (changed true)
        ∧ t.events.enable = s.events.enable
        ∧ (∀ c, t.events.status.has c = true ↔
            (s.events.status.has c = true ∨ (c = .extInput ∧ x.config.raise = true)))
        ∧ ∀ d : DomainId,
          let y := s.dom d
          let acts := x.config.activity.getLsbD d.val
          let wakes := x.config.wake.getLsbD d.val
          (acts = false → wakes = false → t.dom d = y)
          ∧ (y.state.takesActivity = true → (acts = true ∨ wakes = true) → t.dom d = y.active)
          ∧ (wakes = true → y.config.wakeAllowed = true → y.state = .off → t.dom d = y.woken)
          ∧ (wakes = true → y.config.wakeAllowed = true → (y.state = .draining ∨ ∃ n, y.state = .cooldown n) →
              t.dom d = y.willWake)
          ∧ (y.state.takesActivity = false → (wakes = false ∨ y.config.wakeAllowed = false) → t.dom d = y)
          ∧ (y.state.inAttempt = true ∨ y.state = .fault → t.dom d = y))

/-! ## Rules over every command -/

/-- R74 and the owners' rules. The window table changes by WINDOW_WRITE alone, the domain configurations by
DOMAIN_CONFIG_WRITE, the external-input configurations by MGMT_WRITE, the park limit and the S-port settings by the
settings writes, the hit counters by an admission or CLEAR_COUNTERS, the straps by nothing; a domain leaves FAULT by
CLEAR_FAULT or SEGMENT_RESET alone. A power-on reset apart. -/
def Obligations.OnlyNamedCommandsChangeTables : Prop :=
  ∀ (c : Instr) (s t : State), exec c s = .next t → (∀ pins, c ≠ .powerOnReset pins) →
    (c ≠ .windowWrite → t.windows = s.windows)
    ∧ t.straps = s.straps
    ∧ (c ≠ .domainConfigWrite → ∀ d, (t.dom d).config = (s.dom d).config)
    ∧ (c ≠ .mgmtWrite → ∀ i, (t.events.inputs.get i).config = (s.events.inputs.get i).config)
    ∧ (c ≠ .mgmtWrite → c ≠ .uportFormatWrite → c ≠ .sportFormatWrite →
        t.parkLimit = s.parkLimit ∧ t.uport.setting = s.uport.setting ∧ t.sport.setting = s.sport.setting
          ∧ t.sport.answerTimeout = s.sport.answerTimeout ∧ t.sport.retryCount = s.sport.retryCount
          ∧ t.sport.defaultGap = s.sport.defaultGap)
    ∧ (c ≠ .clearCounters → (∀ data mark, c ≠ .urxCharacterReceived data mark) → t.hits = s.hits)
    ∧ (c ≠ .clearFault → c ≠ .segmentReset → ∀ d, (s.dom d).state = .fault → (t.dom d).state = .fault)

/-- R78, R145, R151, R152. A class stays set until a clear write or a power-on reset, and the enable set changes by the
same commands; notice-pending is raised in every event that leaves a class set and enabled where none was, and by
nothing else. With RESETN high ALERT is asserted exactly while some class is both set and enabled; with RESETN held low
it is released (log entry 21). A power line is at its active level, the polarity as it stands, exactly in SETTLING,
CHECKING, RESTORING, ON, WARNING and DRAINING; a domain is in service in ON, WARNING and DRAINING (R45). UTX carries a
frame exactly while the transmitter sends one, and SDL is driven exactly in SEND (R126). -/
def Obligations.EventClassesPowerLinesAndNoticePending : Prop :=
  (∀ s : State,
      (s.alert = true ↔ ∃ c : EventClass, s.events.status.has c = true ∧ s.events.enable.has c = true)
        ∧ (∀ c, s.events.live.has c = (s.events.status.has c && s.events.enable.has c))
        ∧ (s.outputsAt false).alert = s.alert ∧ (s.outputsAt true).alert = false
        ∧ ((s.outputsAt false).utxBusy = true ↔ s.uport.tx ≠ none)
        ∧ ((s.outputsAt false).sdlDriven = true ↔ ∃ x, InPhase s .send x))
    ∧ (∀ x : DomState,
      (x.inService = true ↔ (∃ n, x = .on n) ∨ (∃ n, x = .warning n) ∨ x = .draining)
        ∧ (x.isWarning = true ↔ ∃ n, x = .warning n) ∧ (x.isRestoring = true ↔ ∃ k g, x = .restoring k g)
        ∧ (x.isFault = true ↔ x = .fault))
    ∧ (∀ (s : State) (d? : Option DomainId),
      s.domainServes d? = true ↔ ∀ d, d? = some d → (s.dom d).state.inService = true)
    ∧ (∀ (s : State) (d : DomainId),
      let x := s.dom d
      let active := (∃ n, x.state = .settling n) ∨ (∃ p g, x.state = .checking p g) ∨ (∃ k g, x.state = .restoring k g)
        ∨ (∃ n, x.state = .on n) ∨ (∃ n, x.state = .warning n) ∨ x.state = .draining
      (x.config.polarity = .activeHigh → (s.powerLine d = true ↔ active))
        ∧ (x.config.polarity = .activeLow → (s.powerLine d = false ↔ active))
        ∧ (s.outputsAt false).power.get d = s.powerLine d)
    ∧ ∀ (c : Instr) (s t : State), exec c s = .next t →
      (s.alert = false → t.alert = true → t.uport.noticePending = true)
      ∧ ((∀ pins, c ≠ .powerOnReset pins) →
        (t.uport.noticePending = true → s.uport.noticePending = true ∨ (s.alert = false ∧ t.alert = true))
        ∧ (c ≠ .enableWrite → c ≠ .clearWrite →
          t.events.enable = s.events.enable ∧ ∀ k, s.events.status.has k = true → t.events.status.has k = true))

/-- R113. While a domain is in RESTORING no event but a power-on reset changes its list. -/
def Obligations.RestoringListDoesNotChange : Prop :=
  ∀ (c : Instr) (s t : State) (d : DomainId), exec c s = .next t → (∀ pins, c ≠ .powerOnReset pins) →
    (s.dom d).state.isRestoring = true → t.shadow.list d = s.shadow.list d

/-! ## The management engine -/

/-- R53, R118, R162, R164, R172, R173, R175. The engine serves the LOCAL entry earliest in the arrival order, and each
command of the table serves the requests its row names by operation, location, length and code: the rows take their
operands from the entry, a WRITE that spans two rows' locations is served by either, and a WRITE of no other row is
MGMT_WRITE's (the model's reading, log entry 8); a row whose request is not the one to be served does nothing (the
model's choice, log entry 3). A READ whose whole range lies in one region is answered OK with the bytes of that moment,
any other INVALID; a PROBE is answered OK and changes nothing. The entry joins the reply queue. -/
def Obligations.ReadsAndProbesAreServed : Prop :=
  (∀ (s : State) (e : Entry), s.oldestLocal = some e ↔
    ∃ before after, s.entries = before ++ e :: after ∧ e.state = .waitingLocal
      ∧ ∀ x ∈ before, x.state ≠ .waitingLocal)
  ∧ (∀ c : Command, serves .mgmtProbe c = true ↔ c.op = 0x03)
  ∧ (∀ c : Command, 1 ≤ c.length.toNat →
    let first := c.location.toNat
    let last := first + c.length.toNat - 1
    let within := fun (a b : Nat) => a ≤ first ∧ last ≤ b
    let touching := fun (a b : Nat) => first ≤ b ∧ a ≤ last
    let write := c.op = 0x02
    let gives := fun (code : Byte) => c.payload.head? = some code
    (serves .mgmtRead c = true ↔ c.op = 0x01 ∧ ¬within 0x0420 0x042F)
    ∧ (serves .shadowRead c = true ↔ c.op = 0x01 ∧ within 0x0420 0x042F)
    ∧ (serves .uportFormatWrite c = true ↔ write ∧ within 0x0010 0x001F ∧ touching 0x0010 0x0013)
    ∧ (serves .sportFormatWrite c = true ↔ write ∧ within 0x0010 0x001F ∧ touching 0x0014 0x0017)
    ∧ (serves .enableWrite c = true ↔ write ∧ within 0x0020 0x0025 ∧ touching 0x0022 0x0023)
    ∧ (serves .clearWrite c = true ↔ write ∧ within 0x0020 0x0025 ∧ touching 0x0024 0x0025)
    ∧ (serves .windowWrite c = true ↔ write ∧ within 0x0100 0x01FF)
    ∧ (serves .domainConfigWrite c = true ↔ write ∧ within 0x0300 0x037F)
    ∧ (∀ p ∈ [(ServeKind.wake, (0x01 : Byte)), (.sleep, 0x02), (.clearFault, 0x03), (.clearShadow, 0x04)],
        serves p.1 c = true ↔ write ∧ within 0x0400 0x0407 ∧ c.length = 1 ∧ gives p.2)
    ∧ (∀ p ∈ [(ServeKind.segmentReset, (0x01 : Byte)), (.clearCounters, 0x02)],
        serves p.1 c = true ↔ write ∧ first = 0x0408 ∧ c.length = 1 ∧ gives p.2)
    ∧ (serves .shadowSelect c = true ↔ write ∧ first = 0x0410 ∧ c.length = 1)
    ∧ (∀ p ∈ [(ServeKind.insert, (0x01 : Byte)), (.delete, 0x02)],
        serves p.1 c = true ↔ write ∧ first = 0x0430 ∧ c.length = 16 ∧ gives p.2)
    ∧ (serves .mgmtWrite c = true ↔ write ∧
        ∀ k ∈ [ServeKind.uportFormatWrite, .sportFormatWrite, .enableWrite, .clearWrite, .windowWrite,
          .domainConfigWrite, .wake, .sleep, .clearFault, .clearShadow, .segmentReset, .clearCounters, .shadowSelect,
          .insert, .delete], serves k c = false))
  ∧ (∀ p ∈ [(ServeKind.mgmtRead, Instr.mgmtRead), (.mgmtProbe, .mgmtProbe), (.mgmtWrite, .mgmtWrite),
        (.uportFormatWrite, .uportFormatWrite), (.sportFormatWrite, .sportFormatWrite), (.enableWrite, .enableWrite),
        (.clearWrite, .clearWrite), (.windowWrite, .windowWrite), (.domainConfigWrite, .domainConfigWrite),
        (.wake, .wake), (.sleep, .sleep), (.clearFault, .clearFault), (.clearShadow, .clearShadow),
        (.segmentReset, .segmentReset), (.clearCounters, .clearCounters), (.shadowSelect, .shadowSelect),
        (.shadowRead, .shadowRead), (.insert, .insert), (.delete, .delete)],
      ∀ s : State, (∀ e, ¬Serving s p.1 e) → exec p.2 s = .next s)
  ∧ ∀ (s : State) (e : Entry),
    (Serving s .mgmtRead e →
      (∀ r, e.cmd.region = some r → ∃ t, exec .mgmtRead s = .next t
        ∧ Answered s t e.tag .ok
          ((List.range e.cmd.length.toNat).map fun i => s.regionByte r (e.cmd.location.toNat - r.base + i))
        ∧ Frame [.entries, .replyQueue] s t)
      ∧ (e.cmd.region = none → ∃ t, exec .mgmtRead s = .next t ∧ NotServed s t e.tag .invalid))
    ∧ (Serving s .mgmtProbe e → ∃ t, exec .mgmtProbe s = .next t
        ∧ Answered s t e.tag .ok [] ∧ Frame [.entries, .replyQueue] s t)

/-- The region map, and what every region but the shadow read image reads as: identity, settings, event sets,
external-input records, input status, counters, window records, hit counters, domain configuration and status records,
and 0x00 for the write-only regions; the images the WRITE statements speak of are these bytes, and the management
address is 0x7C plus the straps (sections 9.1 to 9.5). -/
def Obligations.ManagementMapAndRegionBytes : Prop :=
  (allRegions.map fun r => (r.base, r.base + r.size - 1)) =
      [(0x0000, 0x000F), (0x0010, 0x001F), (0x0020, 0x0025), (0x0028, 0x0037), (0x0038, 0x0038), (0x0040, 0x005F),
        (0x0100, 0x01FF), (0x0200, 0x023F), (0x0300, 0x037F), (0x0380, 0x03FF), (0x0400, 0x0407), (0x0408, 0x0408),
        (0x0410, 0x0410), (0x0420, 0x042F), (0x0430, 0x043F)]
    ∧ (∀ (location length : Nat) (r : Region), 1 ≤ length →
        (regionOf location length = some r ↔ r.base ≤ location ∧ location + length ≤ r.base + r.size))
    ∧ ∀ s : State,
      let formatBytes : Format → List Byte := fun f =>
        [match f.parity with | .none => 0 | .even => 1 | .odd => 2, match f.stop with | .one => 1 | .two => 2,
          BitVec.ofNat 8 (f.divisor.toNat / 256), BitVec.ofNat 8 f.divisor.toNat]
      s.mgmtAddress.toNat = 0x7C + s.straps.toNat ∧ boolByte false = 0 ∧ boolByte true = 1
      ∧ s.settingsImage = (List.range 16).map (s.regionByte .settings)
      ∧ (∀ i : Fin 4, (s.events.inputs.get i).config.image =
          (List.range 4).map fun k => s.regionByte .extConfig (4 * i.val + k))
      ∧ (∀ i : Fin 32, (s.windows.get i).image = (List.range 8).map fun k => s.regionByte .windows (8 * i.val + k))
      ∧ (∀ d : DomainId, (s.dom d).config.image =
          (List.range 16).map fun k => s.regionByte .domainConfig (16 * d.val + k))
      ∧ (List.range 16).map (s.regionByte .identity) =
        [0x53, 0x41, 0x02, 0x10, 0x20, 0x08, 0xC0, 0x04, 0x04, s.mgmtAddress, 0, 0, 0, 0, 0, 0]
      ∧ (∀ c : EventClass,
          charactersName (s.regionByte .events 0) (s.regionByte .events 1) c = s.events.status.has c
            ∧ charactersName (s.regionByte .events 2) (s.regionByte .events 3) c = s.events.enable.has c)
      ∧ s.regionByte .events 4 = 0 ∧ s.regionByte .events 5 = 0
      ∧ (List.range 16).map (s.regionByte .settings) =
        formatBytes s.uport.setting ++ formatBytes s.sport.setting
          ++ [s.sport.answerTimeout, s.sport.retryCount, s.sport.defaultGap, s.parkLimit, 0, 0, 0, 0]
      ∧ (∀ i : Fin 4, (List.range 4).map (fun k => s.regionByte .extConfig (4 * i.val + k)) =
          let x := (s.events.inputs.get i).config
          [match x.edge with | .off => 0 | .rising => 1 | .falling => 2 | .both => 3, boolByte x.raise, x.activity,
            x.wake])
      ∧ (∀ i : Fin 32,
          let b := fun k => s.regionByte .windows (8 * i.val + k)
          let w := s.windows.get i
          [(b 0).getLsbD 0, (b 0).getLsbD 1, (b 0).getLsbD 2, (b 0).getLsbD 3, (b 0).getLsbD 4, (b 0).getLsbD 5] =
              [w.valid, w.permitsRead, w.permitsWrite, w.permitsProbe, w.shadow, w.event]
            ∧ b 0 >>> 6 = (match w.cls with | .passive => 0 | .keep => 1 | .wake => 2)
            ∧ b 1 = (match w.domain with | some d => BitVec.ofNat 8 d.val | none => 0xFF)
            ∧ b 2 = w.targetBase.setWidth 8 ∧ b 3 = w.targetMask.setWidth 8 ∧ b 4 = BitVec.ofNat 8 w.sizeCode.val
            ∧ b 5 ++ b 6 = w.locationBase ∧ b 7 = 0)
      ∧ (∀ d : DomainId,
          let b := fun k => s.regionByte .domainConfig (16 * d.val + k)
          let x := (s.dom d).config
          (List.range 11).map b =
              [match x.mode with | .managed => 0 | .heldMode => 1, boolByte x.wakeAllowed,
                match x.polarity with | .activeHigh => 0 | .activeLow => 1,
                match x.policy with | .strict => 0 | .lenient => 1,
                match x.pgInput with | none => 0 | some i => BitVec.ofNat 8 (i.val + 1),
                match x.checkTarget with | none => 0 | some target => target,
                x.settleTime, x.minimumOff, x.warning, x.wakeLimit, x.recoveryGap]
            ∧ b 11 ++ b 12 = x.idleReload ∧ b 13 = 0 ∧ b 14 = 0 ∧ b 15 = 0)
      ∧ (∀ k, s.regionByte .domainCommand k = 0 ∧ s.regionByte .globalCommand k = 0
          ∧ s.regionByte .shadowSelect k = 0 ∧ s.regionByte .shadowEdit k = 0)
      ∧ (∀ i : Fin 4,
          (s.regionByte .inputStatus 0).getLsbD i.val = (s.events.inputs.get i).filter.level
            ∧ (s.regionByte .inputStatus 0).getLsbD (4 + i.val) = (s.events.inputs.get i).seen)
      ∧ ((List.range 16).map fun k => s.regionByte .counters (2 * k) ++ s.regionByte .counters (2 * k + 1)) =
        [s.uport.counters.parity, s.uport.counters.framing, s.uport.counters.check, s.uport.counters.gap,
          s.uport.counters.formatCount, s.uport.counters.overrun, s.uport.counters.breaks, s.uport.counters.stray,
          s.uport.counters.frames, s.uport.counters.replies, s.uport.counters.notices, s.sport.counters.timeouts,
          s.sport.counters.naks, s.sport.counters.lineFaults, s.sport.counters.answerErrors,
          s.sport.counters.exchangesOk]
      ∧ (∀ i : Fin 32, s.regionByte .hits (2 * i.val) ++ s.regionByte .hits (2 * i.val + 1) = s.hits.get i)
      ∧ ∀ d : DomainId,
        let b := fun k => s.regionByte .domainStatus (16 * d.val + k)
        let x := s.dom d
        b 0 = (match x.state with
            | .off => 0 | .cooldown _ => 1 | .settling _ => 2 | .checking _ _ => 3 | .restoring _ _ => 4 | .on _ => 5
            | .warning _ => 6 | .draining => 7 | .fault => 8)
          ∧ b 1 = BitVec.ofNat 8 x.attempt ∧ b 2 = boolByte x.pendingWake
          ∧ b 3 = (match x.cause with
            | .none => 0 | .pgLow => 1 | .checkFailed => 2 | .restoreFailed => 3 | .powerLost => 4)
          ∧ b 4 = boolByte (s.shadow.incomplete.get d)
          ∧ b 5 = BitVec.ofNat 8 (s.shadow.list d).length
          ∧ b 6 = BitVec.ofNat 8 (s.entries.filter fun e => e.state.isParked && e.domain? == some d).length
          ∧ b 7 ++ b 8 = (BitVec.ofNat 16 (match x.state with
            | .on (some n) => (n + 9) / 10 | .on none => 0 | .off => 0 | .cooldown _ => 0 | .settling _ => 0
            | .checking _ _ => 0 | .restoring _ _ => 0 | .warning _ => 0 | .draining => 0 | .fault => 0) : Half)
          ∧ b 9 ++ b 10 = x.wakeCount ∧ b 11 ++ b 12 = x.failedCount
          ∧ b 13 = 0 ∧ b 14 = 0 ∧ b 15 = 0

/-- R166. A WRITE in the settings region, by whichever row serves it, is judged whole on the sixteen bytes as they would
stand: any field outside its range makes it INVALID and nothing changes, an earlier pending U-port format included (the
model's choice between two readings of R9, log entry 10); otherwise every field takes its byte, the
unused bytes are discarded, and a WRITE that touches the U-port format leaves it pending for the reply to this entry. -/
def Obligations.SettingsWritesAreJudgedWhole : Prop :=
  ∀ (s : State) (e : Entry) (c : Instr), SettingsOk s → e.cmd.region = some .settings →
    e.cmd.payload.length = e.cmd.length.toNat →
    ((c = .mgmtWrite ∧ Serving s .mgmtWrite e) ∨ (c = .uportFormatWrite ∧ Serving s .uportFormatWrite e)
      ∨ (c = .sportFormatWrite ∧ Serving s .sportFormatWrite e)) →
    let b := fun k => (overlay 0x0010 s.settingsImage e.cmd.location.toNat e.cmd.payload).getD k 0
    let formatOk := fun (p q hi lo : Byte) =>
      p.toNat ≤ 2 ∧ (q = 1 ∨ q = 2) ∧ 1 ≤ 256 * hi.toNat + lo.toNat ∧ 256 * hi.toNat + lo.toNat ≤ 4095
    let ok :=
      formatOk (b 0) (b 1) (b 2) (b 3) ∧ formatOk (b 4) (b 5) (b 6) (b 7) ∧ 4 ≤ (b 8).toNat ∧ (b 9).toNat ≤ 3
        ∧ 1 ≤ (b 10).toNat ∧ (b 10).toNat ≤ 16 ∧ 1 ≤ (b 11).toNat
    (ok → ∃ t, exec c s = .next t
      ∧ Answered s t e.tag .ok [] ∧ Frame [.entries, .replyQueue, .uport, .sport, .parkLimit] s t
      ∧ t.settingsImage = [b 0, b 1, b 2, b 3, b 4, b 5, b 6, b 7, b 8, b 9, b 10, b 11, 0, 0, 0, 0]
      ∧ t.uport =
        { s.uport with
          setting := t.uport.setting
          pendingFormat :=
            if e.cmd.location.toNat ≤ 0x0013 then some { format := t.uport.setting, tag := e.tag }
            else s.uport.pendingFormat }
      ∧ t.sport =
        { s.sport with
          setting := t.sport.setting, answerTimeout := b 8, retryCount := b 9, defaultGap := b 10 })
    ∧ (¬ok → ∃ t, exec c s = .next t ∧ NotServed s t e.tag .invalid)

/-- R155, R164. A WRITE with no row of its own: in the external-input region it is judged whole on the records as they
would stand and changes the configurations alone; outside that region and the settings region, whose WRITEs are
stated by themselves (O33), it is INVALID. -/
def Obligations.WritesWithoutARowOfTheirOwn : Prop :=
  ∀ (s : State) (e : Entry), Serving s .mgmtWrite e →
    let b := fun (i : Fin 4) (k : Nat) =>
      (overlay (0x0028 + 4 * i.val) (s.events.inputs.get i).config.image e.cmd.location.toNat e.cmd.payload).getD k 0
    (e.cmd.region = some .extConfig →
      ((∀ i, (b i 0).toNat ≤ 3 ∧ (b i 1).toNat ≤ 1) → ∃ t, exec .mgmtWrite s = .next t
        ∧ Answered s t e.tag .ok [] ∧ Frame [.entries, .replyQueue, .events] s t
        ∧ t.events.status = s.events.status ∧ t.events.enable = s.events.enable
        ∧ ∀ i, (t.events.inputs.get i).config.image = [b i 0, b i 1, b i 2, b i 3]
          ∧ (t.events.inputs.get i).filter = (s.events.inputs.get i).filter
          ∧ (t.events.inputs.get i).seen = (s.events.inputs.get i).seen)
      ∧ (¬(∀ i, (b i 0).toNat ≤ 3 ∧ (b i 1).toNat ≤ 1) →
        ∃ t, exec .mgmtWrite s = .next t ∧ NotServed s t e.tag .invalid))
    ∧ (e.cmd.region ≠ some .settings → e.cmd.region ≠ some .extConfig →
      ∃ t, exec .mgmtWrite s = .next t ∧ NotServed s t e.tag .invalid)

/-- R147, R148, R150. A WRITE of enable and clear characters, by either row, takes effect together: the enable set takes
the characters written, the named classes leave the status set, and naming EXT_INPUT clears the four edge-seen marks;
notice-pending is judged once. Bit 7 of a high character, or a touched status character, makes it INVALID. -/
def Obligations.EnableAndClearWritesTakeEffectTogether : Prop :=
  ∀ (s : State) (e : Entry) (c : Instr),
    ((c = .enableWrite ∧ Serving s .enableWrite e) ∨ (c = .clearWrite ∧ Serving s .clearWrite e)) →
    let loc := e.cmd.location.toNat
    let en := fun k =>
      (overlay 0x0022 [eventHigh s.events.enable, eventLow s.events.enable] loc e.cmd.payload).getD k 0
    let cl := fun k => (overlay 0x0024 [0, 0] loc e.cmd.payload).getD k 0
    let bad := loc < 0x0022 ∨ (en 0).getLsbD 7 = true ∨ (cl 0).getLsbD 7 = true
    (¬bad → ∃ t, exec c s = .next t
      ∧ Answered s t e.tag .ok [] ∧ UportKept s t ∧ Frame [.entries, .replyQueue, .events, .uport] s t
      ∧ (∀ k : EventClass, t.events.enable.has k = charactersName (en 0) (en 1) k
        ∧ t.events.status.has k = (s.events.status.has k && !charactersName (cl 0) (cl 1) k))
      ∧ ∀ i, (t.events.inputs.get i).config = (s.events.inputs.get i).config
        ∧ (t.events.inputs.get i).filter = (s.events.inputs.get i).filter
        ∧ (t.events.inputs.get i).seen =
          ((s.events.inputs.get i).seen && !charactersName (cl 0) (cl 1) .extInput))
    ∧ (bad → e.cmd.payload ≠ [] → ∃ t, exec c s = .next t ∧ NotServed s t e.tag .invalid)

/-- R69, R71. A WRITE in the window region is judged whole on the records as they would stand; where one fails it is
INVALID and no record changes; otherwise all touched records change together, byte 7 of each reading 0. Hit counters
stay. -/
def Obligations.WindowWritesAreJudgedWhole : Prop :=
  ∀ (s : State) (e : Entry), Serving s .windowWrite e →
    let b := fun (i : Fin 32) (k : Nat) =>
      (overlay (0x0100 + 8 * i.val) (s.windows.get i).image e.cmd.location.toNat e.cmd.payload).getD k 0
    let ok := ∀ i, b i 0 >>> 6 ≠ 3 ∧ ((b i 1).toNat ≤ 7 ∨ b i 1 = 0xFF) ∧ (b i 2).toNat ≤ 0x7F
      ∧ (b i 3).toNat ≤ 0x7F ∧ (b i 4).toNat ≤ 16
    (ok → ∃ t, exec .windowWrite s = .next t
      ∧ Answered s t e.tag .ok [] ∧ Frame [.entries, .replyQueue, .windows] s t
      ∧ ∀ i, (t.windows.get i).image = [b i 0, b i 1, b i 2, b i 3, b i 4, b i 5, b i 6, 0])
    ∧ (¬ok → ∃ t, exec .windowWrite s = .next t ∧ NotServed s t e.tag .invalid)

/-- R75, R82. A WRITE in the domain configuration region is judged whole on the records as they would stand; where one
fails it is INVALID and none changes; otherwise all touched records change together, bytes 13 to 15 reading 0, and a
domain in WARNING whose mode goes from MANAGED to HELD returns to ON with its idle timer stopped. -/
def Obligations.DomainConfigWritesAreJudgedWhole : Prop :=
  ∀ (s : State) (e : Entry), Serving s .domainConfigWrite e →
    (∀ d, ConfigOk s.mgmtAddress (s.dom d).config) →
    let b := fun (d : DomainId) (k : Nat) =>
      (overlay (0x0300 + 16 * d.val) (s.dom d).config.image e.cmd.location.toNat e.cmd.payload).getD k 0
    let ok := ∀ d, (b d 0).toNat ≤ 1 ∧ (b d 1).toNat ≤ 1 ∧ (b d 2).toNat ≤ 1 ∧ (b d 3).toNat ≤ 1
      ∧ (b d 4).toNat ≤ 4 ∧ (b d 5).toNat ≤ 0x7F ∧ b d 5 ≠ s.mgmtAddress ∧ b d 6 ≠ 0
      ∧ 1 ≤ (b d 9).toNat ∧ (b d 9).toNat ≤ 4 ∧ 1 ≤ (b d 10).toNat ∧ (b d 10).toNat ≤ 16
    (ok → ∃ t, exec .domainConfigWrite s = .next t
      ∧ Answered s t e.tag .ok [] ∧ Frame [.entries, .replyQueue, .domains] s t
      ∧ ∀ d, (t.dom d).config.image = (List.range 13).map (b d) ++ [0, 0, 0]
        ∧ t.dom d = { s.dom d with config := (t.dom d).config, state := (t.dom d).state }
        ∧ (((s.dom d).config.mode = .managed ∧ (t.dom d).config.mode = .heldMode
            ∧ (s.dom d).state.isWarning = true) → (t.dom d).state = .on none)
        ∧ (¬((s.dom d).config.mode = .managed ∧ (t.dom d).config.mode = .heldMode
            ∧ (s.dom d).state.isWarning = true) → (t.dom d).state = (s.dom d).state))
    ∧ (¬ok → ∃ t, exec .domainConfigWrite s = .next t ∧ NotServed s t e.tag .invalid)

/-- R86, R96. The WAKE command, by the domain's state: a wake starts from OFF whatever wake allowed holds; pending wake
is set in COOLDOWN and DRAINING; activity in ON and WARNING; nothing during a wake; REFUSED in FAULT. -/
def Obligations.WakeCommandActsByState : Prop :=
  ∀ (s : State) (e : Entry) (d : DomainId), Serving s .wake e → e.cmd.location.toNat = 0x0400 + d.val →
    let x := s.dom d
    (x.state ≠ .fault → ∃ t, exec .wake s = .next t
      ∧ Answered s t e.tag .ok [] ∧ OtherDomainsKept [d] s t ∧ Frame [.entries, .replyQueue, .domains] s t
      ∧ (x.state = .off → t.dom d = x.woken)
      ∧ (x.state = .draining ∨ (∃ n, x.state = .cooldown n) → t.dom d = x.willWake)
      ∧ (x.state.takesActivity = true → t.dom d = x.active)
      ∧ (x.state.inAttempt = true → t.dom d = x))
    ∧ (x.state = .fault → ∃ t, exec .wake s = .next t ∧ NotServed s t e.tag .refused)

/-- R97. The SLEEP command, by the domain's state: ON and WARNING enter DRAINING, and power down at once where no work
is in progress; OFF, COOLDOWN and DRAINING are left as they are; REFUSED during a wake and in FAULT. -/
def Obligations.SleepCommandActsByState : Prop :=
  ∀ (s : State) (e : Entry) (d : DomainId), Serving s .sleep e → e.cmd.location.toNat = 0x0400 + d.val →
    let x := s.dom d
    (x.state.takesActivity = true → ∃ t, exec .sleep s = .next t
      ∧ Answered s t e.tag .ok [] ∧ OtherDomainsKept [d] s t ∧ UportKept s t
      ∧ Frame [.entries, .replyQueue, .domains, .events, .uport] s t
      ∧ (NoWork s d → t.dom d = x.cooled ∧ RaisedOnly s t [.domainDown])
      ∧ (¬NoWork s d → t.dom d = { x with state := .draining } ∧ RaisedOnly s t []))
    ∧ (x.state = .off ∨ (∃ n, x.state = .cooldown n) ∨ x.state = .draining → ∃ t, exec .sleep s = .next t
      ∧ Answered s t e.tag .ok [] ∧ Frame [.entries, .replyQueue] s t)
    ∧ (x.state.inAttempt = true ∨ x.state = .fault →
      ∃ t, exec .sleep s = .next t ∧ NotServed s t e.tag .refused)

/-- R98, R121. CLEAR_FAULT sends a FAULT domain to OFF with attempt number 0 and cause NONE, and is REFUSED in any other
state. CLEAR_SHADOW empties the domain's list and clears its restore-incomplete mark in every state but RESTORING, where
it is REFUSED; a cursor in that list goes to the end. -/
def Obligations.ClearFaultAndClearShadow : Prop :=
  ∀ (s : State) (e : Entry) (d : DomainId), e.cmd.location.toNat = 0x0400 + d.val →
    let x := s.dom d
    (Serving s .clearFault e →
      (x.state = .fault → ∃ t, exec .clearFault s = .next t
        ∧ Answered s t e.tag .ok [] ∧ OtherDomainsKept [d] s t ∧ Frame [.entries, .replyQueue, .domains] s t
        ∧ t.dom d = { x with state := .off, attempt := 0, cause := .none })
      ∧ (x.state ≠ .fault → ∃ t, exec .clearFault s = .next t ∧ NotServed s t e.tag .refused))
    ∧ (Serving s .clearShadow e →
      (x.state.isRestoring = false → ∃ t, exec .clearShadow s = .next t
        ∧ Answered s t e.tag .ok [] ∧ Frame [.entries, .replyQueue, .shadow] s t
        ∧ t.shadow =
          { lists := s.shadow.lists.set d [], incomplete := s.shadow.incomplete.set d false
            selected := s.shadow.selected
            position := if s.shadow.selected = some d then none else s.shadow.position })
      ∧ (x.state.isRestoring = true → ∃ t, exec .clearShadow s = .next t ∧ NotServed s t e.tag .refused))

/-- R54, R55, R102. SEGMENT_RESET finishes every QUEUED, PARKED and other LOCAL entry with ABORTED in arrival order, its
own entry with OK behind them, marks every ACTIVE entry, sends every domain to OFF, clears every retry note, and changes
nothing else. -/
def Obligations.SegmentResetAbortsAndPowersDown : Prop :=
  ∀ (s : State) (e : Entry), Serving s .segmentReset e →
    let aborts := fun (x : Entry) =>
      x.state.isQueued || x.state.isParked || (x.state.isLocal && x.tag != e.tag)
    ∃ t, exec .segmentReset s = .next t
      ∧ Frame [.entries, .replyQueue, .domains, .sport] s t
      ∧ t.entries = s.entries.map (fun x =>
          if x.tag = e.tag then { x with state := .done .ok [] }
          else if aborts x then { x with state := .done .aborted [] }
          else if x.state.isActive then { x with state := .active true }
          else x)
      ∧ t.replyQueue = s.replyQueue ++ (s.entries.filter aborts).map (·.tag) ++ [e.tag]
      ∧ (∀ d, t.dom d = { s.dom d with state := .off, pendingWake := false, attempt := 0, cause := .none })
      ∧ (∃ notes, t.sport = { s.sport with notes := notes } ∧ ∀ d : Fin 8, notes.get d = none)

/-- R58, R141, R168, R174. A counter rises by one and stays at 65535. CLEAR_COUNTERS sets the sixteen port counters, the
32 hit counters and the wake and failed-attempt counts of every domain to 0, and changes nothing else. -/
def Obligations.ClearCountersZeroesEveryCounter : Prop :=
  (∀ c : Half, (satInc c).toNat = if c.toNat = 65535 then 65535 else c.toNat + 1)
  ∧ ∀ (s : State) (e : Entry), Serving s .clearCounters e → ∃ t, exec .clearCounters s = .next t
    ∧ Answered s t e.tag .ok [] ∧ Frame [.entries, .replyQueue, .uport, .sport, .hits, .domains] s t
    ∧ t.uport =
      { s.uport with
        counters :=
          { parity := 0, framing := 0, check := 0, gap := 0, formatCount := 0, overrun := 0, breaks := 0, stray := 0,
            frames := 0, replies := 0, notices := 0 } }
    ∧ t.sport =
      { s.sport with
        counters := { timeouts := 0, naks := 0, lineFaults := 0, answerErrors := 0, exchangesOk := 0 } }
    ∧ (∀ i, t.hits.get i = 0)
    ∧ ∀ d, t.dom d = { s.dom d with wakeCount := 0, failedCount := 0 }

/-- R122. At power-on no domain is selected and the position is the end. A select of a value 0 to 7 puts the cursor at
the head of that domain's list, or the end; above 7 it is INVALID. A READ of the whole read image returns the entry at
the cursor and advances it, or the end marker at the end; any other READ of the image is INVALID and leaves the cursor.
-/
def Obligations.CursorSelectsAndReads : Prop :=
  (∀ (pins : ResetPins) (waiting : List Instr),
    (State.powerOn pins waiting).shadow.selected = none ∧ (State.powerOn pins waiting).shadow.position = none)
  ∧ ∀ (s : State) (e : Entry),
    (∀ (v : Byte) (rest : List Byte), Serving s .shadowSelect e → e.cmd.payload = v :: rest →
      (∀ d : DomainId, v.toNat = d.val → ∃ t, exec .shadowSelect s = .next t
        ∧ Answered s t e.tag .ok [] ∧ Frame [.entries, .replyQueue, .shadow] s t
        ∧ t.shadow = { s.shadow with selected := some d, position := (s.shadow.list d).head?.map (·.key) })
      ∧ (7 < v.toNat → ∃ t, exec .shadowSelect s = .next t ∧ NotServed s t e.tag .invalid))
    ∧ (Serving s .shadowRead e →
      (e.cmd.location = 0x0420 → e.cmd.length = 16 →
        (s.shadow.position = none → ∃ t, exec .shadowRead s = .next t
          ∧ Answered s t e.tag .ok [0, 0, 0, 0, 0, 0, 0, 0, 0, 0, 0, 0, 0, 0, 0, 0]
          ∧ Frame [.entries, .replyQueue] s t)
        ∧ ∀ (d : DomainId) (before after : List ShadowEntry) (x : ShadowEntry),
          s.shadow.selected = some d → s.shadow.position = some x.key →
          s.shadow.list d = before ++ x :: after → (∀ y ∈ before, y.key ≠ x.key) → x.data.length ≤ 8 →
          ∃ t, exec .shadowRead s = .next t
            ∧ Answered s t e.tag .ok
              ([0, BitVec.ofNat 8 d.val, x.key.target, hiByte x.key.location, loByte x.key.location,
                BitVec.ofNat 8 x.data.length] ++ x.data ++ List.replicate (8 - x.data.length) 0 ++ [0, 0])
            ∧ Frame [.entries, .replyQueue, .shadow] s t
            ∧ t.shadow = { s.shadow with position := after.head?.map (·.key) })
      ∧ (¬(e.cmd.location = 0x0420 ∧ e.cmd.length = 16) →
        ∃ t, exec .shadowRead s = .next t ∧ NotServed s t e.tag .invalid))

/-! ## The shadow store -/

/-- R107 (cases 2 to 7), R108, R109, R123. Where an entry of key K goes for domain d: nowhere while d or the holder of
K is in RESTORING, or where K is new and the pool full; to d's tail otherwise, replacing the entry of K in d's list or
taking it from another's. A cursor on an entry that moves or leaves goes to the entry that followed it; on an entry
already the tail it stays. The pool is full at 192 entries over all lists. -/
def Obligations.StoreCasesPlaceAnEntry : Prop :=
  (∀ (l : List ShadowEntry) (k : Key),
    (holdsKey l k = true ↔ ∃ y ∈ l, y.key = k)
      ∧ ((∀ y ∈ l, y.key ≠ k) → entryAt l k = none ∧ follower k l = none)
      ∧ ∀ before y after, l = before ++ y :: after → (∀ z ∈ before, z.key ≠ k) → y.key = k →
        entryAt l k = some y ∧ follower k l = after.head?.map (·.key))
  ∧ (∀ h : ShadowStore, h.used = ((List.finRange 8).map fun d => (h.list d).length).sum)
  ∧ ∀ (s : State) (d : DomainId) (x : ShadowEntry),
    let kept := fun (l : List ShadowEntry) => l.filter fun y => y.key != x.key
    ((s.dom d).state.isRestoring = true → s.storePut d x = none)
    ∧ ((s.dom d).state.isRestoring = false → holdsKey (s.shadow.list d) x.key = true →
        ∃ h, s.storePut d x = some h
          ∧ h.list d = kept (s.shadow.list d) ++ [x] ∧ (∀ e, e ≠ d → h.list e = s.shadow.list e)
          ∧ h.incomplete = s.shadow.incomplete ∧ h.selected = s.shadow.selected
          ∧ h.position =
            if s.shadow.selected = some d ∧ s.shadow.position = some x.key
              ∧ (s.shadow.list d).getLast?.map (·.key) ≠ some x.key
            then follower x.key (s.shadow.list d) else s.shadow.position)
    ∧ (∀ e, e ≠ d → (s.dom d).state.isRestoring = false → holdsKey (s.shadow.list e) x.key = true →
        (∀ other, holdsKey (s.shadow.list other) x.key = true → other = e) →
        ((s.dom e).state.isRestoring = true → s.storePut d x = none)
        ∧ ((s.dom e).state.isRestoring = false →
          ∃ h, s.storePut d x = some h
            ∧ h.list d = s.shadow.list d ++ [x] ∧ h.list e = kept (s.shadow.list e)
            ∧ (∀ other, other ≠ d → other ≠ e → h.list other = s.shadow.list other)
            ∧ h.incomplete = s.shadow.incomplete ∧ h.selected = s.shadow.selected
            ∧ h.position =
              if s.shadow.selected = some e ∧ s.shadow.position = some x.key
              then follower x.key (s.shadow.list e) else s.shadow.position))
    ∧ ((s.dom d).state.isRestoring = false → (∀ other, holdsKey (s.shadow.list other) x.key = false) →
        (192 ≤ s.shadow.used → s.storePut d x = none)
        ∧ (s.shadow.used < 192 → ∃ h, s.storePut d x = some h
          ∧ h.list d = s.shadow.list d ++ [x] ∧ (∀ e, e ≠ d → h.list e = s.shadow.list e)
          ∧ h.incomplete = s.shadow.incomplete ∧ h.selected = s.shadow.selected
          ∧ h.position = s.shadow.position))

/-- R118, R119, R120. An edit image out of its ranges is INVALID. INSERT puts its entry by the cases of the store, OK,
or is REFUSED where they place it nowhere; it sets no mark. DELETE takes the key's entry from the list that holds it,
OK, with nothing to take is OK and changes nothing, and is REFUSED while the holder is in RESTORING. -/
def Obligations.InsertAndDeleteEditTheStore : Prop :=
  ∀ (s : State) (e : Entry) (b0 b1 target hi lo len : Byte) (data : List Byte),
    e.cmd.payload = b0 :: b1 :: target :: hi :: lo :: len :: data → data.length = 10 →
    let key : Key := { target := target, location := joinBytes hi lo }
    let targetOk := 1 ≤ target.toNat ∧ target.toNat ≤ 0x7F ∧ target ≠ s.mgmtAddress
    let insertOk := targetOk ∧ b1.toNat ≤ 7 ∧ 1 ≤ len.toNat ∧ len.toNat ≤ 8
      ∧ 256 * hi.toNat + lo.toNat + len.toNat - 1 ≤ 0xFFFF
    (Serving s .insert e →
      (¬insertOk → ∃ t, exec .insert s = .next t ∧ NotServed s t e.tag .invalid)
      ∧ (insertOk → ∀ d : DomainId, b1.toNat = d.val →
        let put := s.storePut d { key := key, data := data.take len.toNat }
        (put = none → ∃ t, exec .insert s = .next t ∧ NotServed s t e.tag .refused)
        ∧ ∀ h, put = some h → ∃ t, exec .insert s = .next t
          ∧ Answered s t e.tag .ok [] ∧ Frame [.entries, .replyQueue, .shadow] s t ∧ t.shadow = h))
    ∧ (Serving s .delete e →
      (¬targetOk → ∃ t, exec .delete s = .next t ∧ NotServed s t e.tag .invalid)
      ∧ (targetOk → (∀ d, holdsKey (s.shadow.list d) key = false) → ∃ t, exec .delete s = .next t
        ∧ Answered s t e.tag .ok [] ∧ Frame [.entries, .replyQueue] s t)
      ∧ (targetOk → ∀ d, holdsKey (s.shadow.list d) key = true →
        (∀ other, holdsKey (s.shadow.list other) key = true → other = d) →
        ((s.dom d).state.isRestoring = true → ∃ t, exec .delete s = .next t ∧ NotServed s t e.tag .refused)
        ∧ ((s.dom d).state.isRestoring = false → ∃ t, exec .delete s = .next t
          ∧ Answered s t e.tag .ok [] ∧ Frame [.entries, .replyQueue, .shadow] s t
          ∧ t.shadow =
            { s.shadow with
              lists := s.shadow.lists.set d ((s.shadow.list d).filter fun y => y.key != key)
              position :=
                if s.shadow.selected = some d ∧ s.shadow.position = some key
                then follower key (s.shadow.list d) else s.shadow.position })))

/-! ## The segment port -/

/-- R129, R130, R131; that a grant consumes the domain's retry note, and marks the state as granted in this stay, is the
model's reading of R93 and R138 (log entry 16); the choice is the command GRANT, on the candidates as they stand when it
is taken, whatever came since the S-port was FREE with a candidate (the model's choice, log entry 23). A grant is made
where the S-port is FREE. Of two classes with candidates the alternation flag names the one taken; a class alone is
taken; within maintenance the lowest-numbered domain wins, within forwarding the oldest eligible entry. The record is
filled, and the flag names the class not granted. A granted entry is ACTIVE; a domain's granted work leaves its retry
note. The attempt enters SEND at once where the idle period in progress has already lasted the recovery gap, and GAP
otherwise. With no candidate, or not FREE, nothing happens. -/
def Obligations.GrantTakesTheArbitersChoice : Prop :=
  ∀ s : State,
    (∀ a, s.sport.attempt = some a → exec .grant s = .next s)
    ∧ (s.sport.attempt = none → NoForwarding s → NoMaintenance s → exec .grant s = .next s)
    ∧ (∀ e snap, s.sport.attempt = none → OldestEligible s e → e.snapshot = some snap →
        (NoMaintenance s ∨ s.sport.prefer = .forwarding) →
        ∃ t, exec .grant s = .next t ∧ Frame [.entries, .sport] s t
          ∧ t.entries = s.entries.map (fun x => if x.tag = e.tag then { x with state := .active false } else x)
          ∧ Granted s t (.entry e.tag) e.cmd snap.domain snap.shadow (e.attempts + 1) .maintenance s.sport.notes)
    ∧ (∀ d o c n, s.sport.attempt = none → MaintenanceDue s d o c n →
        (∀ d' < d, ∀ o' c' n', ¬MaintenanceDue s d' o' c' n') →
        (NoForwarding s ∨ s.sport.prefer = .maintenance) →
        ∃ t, exec .grant s = .next t ∧ Frame [.domains, .sport] s t ∧ OtherDomainsKept [d] s t
          ∧ (∀ p g, (s.dom d).state = .checking p g → t.dom d = { s.dom d with state := .checking p true })
          ∧ (∀ k g, (s.dom d).state = .restoring k g → t.dom d = { s.dom d with state := .restoring k true })
          ∧ Granted s t o c (some d) false n .forwarding (s.sport.notes.set d none))

/-- The phases of an attempt (R126, R131 to R134), whatever idle time has been measured when the gap's end is taken (the
model's choice, log entry 2): the recovery gap reached leads from GAP to SEND, the command complete to WAIT, the start
of a character to RECEIVE; a good character that neither ends nor fails the answer is taken by its position: lead 0xB5,
status, length, then as many payload characters as the length says, of which a READ, and no other command, keeps up to
32 (log entry 20); every character after the lead is added to the sum. So an answer sent up to its check character
leaves exactly its own status, length, payload and sum in the exchange record, and the character after 3 + length others
is its check character (what that one decides is `answerOutcome`, in the statements of an attempt's end, O48 to O51). -/
def Obligations.AttemptMovesThroughItsPhases : Prop :=
  ∀ (s : State) (x : Exchange),
    (∀ idle, InPhase s .gap x → s.sport.line = .mark idle → exec .recoveryGapReached s =
      .next (s.withSport
        { s.sport with attempt := some { phase := .send, exchange := x }, line := .space }))
    ∧ (InPhase s .send x → exec .commandComplete s =
      .next (s.withSport
        { s.sport with attempt := some { phase := .wait, exchange := x }, line := .mark 0 })
      ∧ s.sport.frameOnLine = some (segmentFrame x.cmd))
    ∧ (InPhase s .wait x → s.sport.line.takesCharacter = true → exec .answerCharacterStart s =
      .next (s.withSport
        { s.sport with attempt := some { phase := .receive, exchange := x }, line := .space }))
    ∧ (∀ data, InPhase s .receive x → s.sport.line.takesCharacter = true →
      (x.answer.taken = 0 → data = 0xB5) → x.answer.taken ≠ x.answer.length.toNat + 3 →
      let a := x.answer
      exec (.answerCharacterReceived data .good) s = .next (s.inReceive
        { x with
          answer :=
            { taken := a.taken + 1
              status := if a.taken = 1 then data else a.status
              length := if a.taken = 2 then data else a.length
              sum := if a.taken = 0 then a.sum else a.sum + data
              payload :=
                if 3 ≤ a.taken ∧ a.taken < a.length.toNat + 3 ∧ a.payload.length < 32 ∧ x.cmd.op = 0x01
                then a.payload ++ [data] else a.payload } }))
    ∧ ∀ (status length : Byte) (payload : List Byte), InPhase s .receive x → s.sport.line.takesCharacter = true →
      x.answer = { taken := 0, status := 0, length := 0, payload := [], sum := 0 } → payload.length = length.toNat →
      runAnswer s (0xB5 :: status :: length :: payload) = .next (s.inReceive
        { x with
          answer :=
            { taken := payload.length + 3
              status := status
              length := length
              sum := checkSum (status :: length :: payload)
              payload := if x.cmd.op = 0x01 then payload.take 32 else [] } })

/-- R47, R135, R136, R141, R142; a gap expiry, the idle wait limit and the answer timeout end an attempt whatever has
been measured (log entries 2 and 14). The end of an ENTRY attempt: the outcome is counted and the S-port FREE; the
ACTIVE entry takes it in the first case of R47 that applies; SEGMENT_ERROR is set in case 5 for every reason but
TARGET_NAK; an OK WRITE is offered for capture; and the entry's domain, in DRAINING with nothing else in progress,
powers down. NO_RESPONSE, LINE_FAULT and ANSWER_ERROR alone are retryable, and each is answered, when final, with the
status of its name. -/
def Obligations.EntryTakesItsOutcome : Prop :=
  ([AttemptOutcome.noResponse, .lineFault, .answerError, .targetNak].map AttemptOutcome.retryable =
      [true, true, true, false]
    ∧ [AttemptOutcome.noResponse, .lineFault, .answerError, .targetNak].map AttemptOutcome.status =
      [.noResponse, .lineFault, .answerError, .targetNak]
    ∧ ∀ payload, (AttemptOutcome.ok payload).retryable = false ∧ (AttemptOutcome.ok payload).status = .ok)
  ∧ ∀ (c : Instr) (s : State) (x : Exchange) (o : AttemptOutcome) (line : LineState) (e : Entry) (abort : Bool),
    EndsAttempt c s x o line → x.originator = .entry e.tag → s.entry? e.tag = some e → e.state = .active abort →
    let retries := o.retryable = true ∧ e.attempts < s.sport.retryCount.toNat
    let serves := ∀ d, e.domain? = some d → (s.dom d).state.inService = true
    let final := abort = false ∧ o.retryable = true ∧ ¬retries
    ∃ t, exec c s = .next t
      ∧ Frame [.uport, .entries, .replyQueue, .domains, .shadow, .sport, .events] s t
      ∧ UportKept s t
      ∧ t.sport = s.sport.ended line o
      ∧ (abort = true → Answered s t e.tag .aborted [])
      ∧ (abort = false → ∀ payload, o = .ok payload →
          Answered s t e.tag .ok (if e.cmd.op = 0x01 then payload else []))
      ∧ (abort = false → retries → serves →
          t.entries = s.entries.map (fun y =>
              if y.tag = e.tag then { y with state := .queued, attempts := y.attempts + 1 } else y)
            ∧ t.replyQueue = s.replyQueue)
      ∧ (abort = false → retries → ¬serves → Answered s t e.tag .domainFault [])
      ∧ (final → Answered s t e.tag o.status [])
      ∧ (abort = false → o = .targetNak → Answered s t e.tag .targetNak [])
      ∧ t.shadow = storeAfter s x o
      ∧ DrainedOnly s t e.domain?
      ∧ t.events.enable = s.events.enable ∧ t.events.inputs = s.events.inputs
      ∧ ∀ k, t.events.status.has k = true ↔
          (s.events.status.has k = true ∨ (k = .segmentError ∧ final) ∨ k ∈ classesOfOffer s x o
            ∨ (k = .domainDown ∧ ∃ d, e.domain? = some d ∧ Drains s t d))

/-- R139, R141; expiries end an attempt whatever has been measured (log entries 2 and 14). The end of an ORPHAN attempt:
the outcome is counted and reaches no entry; an OK WRITE with the shadow flag and a domain is offered for capture; there
is no retry and no SEGMENT_ERROR; and the orphan's domain, in DRAINING with nothing else in progress, powers down. -/
def Obligations.OrphanEndsWithoutAnEntry : Prop :=
  ∀ (c : Instr) (s : State) (x : Exchange) (o : AttemptOutcome) (line : LineState),
    EndsAttempt c s x o line → x.originator = .orphan →
    ∃ t, exec c s = .next t
      ∧ Frame [.uport, .domains, .shadow, .sport, .events] s t
      ∧ UportKept s t
      ∧ t.sport = s.sport.ended line o
      ∧ t.shadow = storeAfter s x o
      ∧ DrainedOnly s t x.domain
      ∧ t.events.enable = s.events.enable ∧ t.events.inputs = s.events.inputs
      ∧ ∀ k, t.events.status.has k = true ↔
          (s.events.status.has k = true ∨ k ∈ classesOfOffer s x o
            ∨ (k = .domainDown ∧ ∃ d, x.domain = some d ∧ Drains s t d))

/-- R88, R93, R138; expiries end an attempt whatever has been measured (log entries 2 and 14), and the mark of a grant
in the state says that the domain has stayed in it (log entry 16). The end of a check probe's attempt: ignored where the
domain has left CHECKING since the grant; retried through the retry note while the failure is retryable and the attempt
number at most the retry count; final otherwise: OK enters RESTORING, any failure fails the wake attempt with
CHECK_FAILED. -/
def Obligations.CheckProbeTakesItsOutcome : Prop :=
  ∀ (c : Instr) (s : State) (x : Exchange) (o : AttemptOutcome) (line : LineState) (d : DomainId),
    EndsAttempt c s x o line → x.originator = .check d →
    let retries := o.retryable = true ∧ x.attempt ≤ s.sport.retryCount.toNat
    ((∀ p, (s.dom d).state ≠ .checking p true) → ∃ t, exec c s = .next t
      ∧ Frame [.sport] s t ∧ t.sport = s.sport.ended line o)
    ∧ ∀ p, (s.dom d).state = .checking p true →
      (retries → ∃ t, exec c s = .next t ∧ Frame [.sport] s t
        ∧ t.sport =
          { s.sport.ended line o with
            notes := s.sport.notes.set d (some { work := .probe, attempt := x.attempt + 1 }) })
      ∧ (¬retries → ∃ t, exec c s = .next t
        ∧ Frame [.uport, .entries, .replyQueue, .domains, .sport, .events] s t ∧ UportKept s t
        ∧ t.sport = { s.sport.ended line o with notes := s.sport.notes.set d none }
        ∧ ((∃ payload, o = .ok payload) → EnteredRestoring s t d)
        ∧ ((∀ payload, o ≠ .ok payload) → AttemptFailed s t d .checkFailed))

/-- R115, R116, R117, R138; expiries end an attempt whatever has been measured (log entries 2 and 14), and the mark of a
grant in the state says that the domain has stayed in it (log entry 16). The end of a replay write's attempt: ignored
where the domain has left RESTORING since the grant; retried through the retry note; final otherwise: OK advances the
replay position to the next entry, or past the tail, where the domain reaches ON; a failure fails the wake attempt with
RESTORE_FAILED under STRICT policy, and under LENIENT sets RESTORE_SKIP and advances as for OK. The store does not
change. -/
def Obligations.ReplayWriteTakesItsOutcome : Prop :=
  ∀ (c : Instr) (s : State) (x : Exchange) (o : AttemptOutcome) (line : LineState) (d : DomainId) (key : Key),
    EndsAttempt c s x o line → x.originator = .replay d key →
    let retries := o.retryable = true ∧ x.attempt ≤ s.sport.retryCount.toNat
    ((∀ k, (s.dom d).state ≠ .restoring k true) → ∃ t, exec c s = .next t
      ∧ Frame [.sport] s t ∧ t.sport = s.sport.ended line o)
    ∧ ∀ k before after w, (s.dom d).state = .restoring k true →
      s.shadow.list d = before ++ w :: after → w.key = k → (∀ y ∈ before, y.key ≠ k) →
      (retries → ∃ t, exec c s = .next t ∧ Frame [.sport] s t
        ∧ t.sport =
          { s.sport.ended line o with
            notes := s.sport.notes.set d (some { work := .replay k, attempt := x.attempt + 1 }) })
      ∧ (¬retries → ∃ t, exec c s = .next t
        ∧ Frame [.uport, .entries, .replyQueue, .domains, .sport, .events] s t ∧ UportKept s t
        ∧ t.sport = { s.sport.ended line o with notes := s.sport.notes.set d none }
        ∧ ((∃ payload, o = .ok payload) →
          (∀ next rest, after = next :: rest →
            t.dom d = { s.dom d with state := .restoring next.key false } ∧ OtherDomainsKept [d] s t
              ∧ t.entries = s.entries ∧ t.replyQueue = s.replyQueue ∧ t.events = s.events)
          ∧ (after = [] → ReachedOn s t d))
        ∧ ((∀ payload, o ≠ .ok payload) → (s.dom d).config.policy = .strict →
          AttemptFailed s t d .restoreFailed)
        ∧ ((∀ payload, o ≠ .ok payload) → (s.dom d).config.policy = .lenient →
          OtherDomainsKept [d] s t ∧ t.replyQueue = s.replyQueue
          ∧ (∀ next rest, after = next :: rest →
            t.dom d = { s.dom d with state := .restoring next.key false } ∧ t.entries = s.entries
              ∧ RaisedOnly s t [.restoreSkip])
          ∧ (after = [] →
            t.dom d =
                { s.dom d with
                  state := .on (loadedIdle (s.dom d).config), attempt := 0, pendingWake := false,
                  wakeCount := satInc (s.dom d).wakeCount }
              ∧ t.entries =
                s.entries.map (fun e =>
                  if e.state.isParked && e.domain? == some d then { e with state := .queued } else e)
              ∧ RaisedOnly s t [.restoreSkip, .domainUp])))

/-! ## Encodings and laws of every step -/

/-- R164. Records read back: what the image of a window, a configuration record in its ranges, a format or an
external-input record holds is the record, so no bit of an image is dropped. The bytes as they would stand after a
WRITE: a byte inside the range written is the payload's byte of its location, and every other is the stored one. -/
def Obligations.RecordImagesReadBack : Prop :=
  (∀ w : Window, Window.ofImage w.image = some w)
    ∧ (∀ (mgmt : Byte) (c : DomainConfig), ConfigOk mgmt c → mgmt ≠ 0 → DomainConfig.ofImage mgmt c.image = some c)
    ∧ (∀ f : Format, f.divisor ≠ 0 → Format.ofImage f.image = some f)
    ∧ (∀ c : ExtConfig, ExtConfig.ofImage c.image = some c)
    ∧ (∀ e : EventSet, eventSetOf (eventHigh e) (eventLow e) = e)
    ∧ (∀ f : Format, f.ok = true ↔ f.divisor ≠ 0)
    ∧ ∀ (base location : Nat) (image payload : List Byte),
      (overlay base image location payload).length = image.length
      ∧ ∀ i < image.length, (overlay base image location payload).getD i 0 =
        if location ≤ base + i ∧ base + i < location + payload.length then payload.getD (base + i - location) 0
        else image.getD i 0

/-- A request frame, sent character by character to a receiver in HUNT, is delivered with every field as it was sent:
after all its characters but the last the receiver holds exactly that tag and command, and the last is its valid check
character. -/
def Obligations.RequestFrameIsDelivered : Prop :=
  (∀ (tag : Byte) (c : Command),
    let body := [tag, c.op, c.target, BitVec.ofNat 8 (c.location.toNat / 256), BitVec.ofNat 8 (c.location.toNat % 256),
      c.length] ++ c.payload
    requestFrame tag c = 0xD2 :: (body ++ [0 - checkSum body]))
  ∧ (∀ op length : Byte, requestPayloadCount op length = if op = 0x02 then length.toNat else 0)
  ∧ (∀ header : List Byte, headerUnusable header = true ↔
      0x0F < (header.getD 0 0).toNat ∨ (header.getD 1 0 = 0x02 ∧ 32 < (header.getD 5 0).toNat))
  ∧ ∀ (s : State) (tag : Byte) (c : Command), s.uport.rx = .hunt → s.uport.line.takesCharacter = true →
    tag.toNat ≤ 0x0F → c.payload.length = requestPayloadCount c.op c.length → c.payload.length ≤ 32 →
    ∃ u, runCharacters s (requestFrame tag c).dropLast = .next u
      ∧ AtDelivery u ((requestFrame tag c).getLastD 0) tag c
      ∧ Frame [.uport] s u
      ∧ u.uport = { s.uport with line := u.uport.line, rx := u.uport.rx, asm := u.uport.asm }

/-- Every step keeps the request table's law: at most 16 entries, one tag each, and every DONE entry exactly once in
the reply queue or being sent. -/
def Obligations.StepKeepsRequestTableLaw : Prop :=
  ∀ s t : State, RequestTableOk s → step s = .next t → RequestTableOk t

/-- Every step keeps the parking law: an entry is PARKED only for a domain in DRAINING, COOLDOWN, SETTLING, CHECKING or
RESTORING, with pending wake set in the first two; a QUEUED entry's domain is in service, so a domain in FAULT has none
of either. -/
def Obligations.StepKeepsParkingLaw : Prop :=
  ∀ s t : State, RequestTableOk s → ParkingOk s → step s = .next t → ParkingOk t

/-- Every step keeps the segment's law: at most one entry is ACTIVE, and it is the one the exchange record names, with
its command and domain. -/
def Obligations.StepKeepsSegmentLaw : Prop :=
  ∀ s t : State, RequestTableOk s → SegmentOk s → step s = .next t → SegmentOk t

/-- Every step keeps the store's law: at most 192 entries, no two with one key, and the read cursor on an entry of the
selected list or at the end. -/
def Obligations.StepKeepsShadowLaw : Prop :=
  ∀ s t : State, ShadowOk s → CursorOk s → step s = .next t → ShadowOk t ∧ CursorOk t

/-- Every step keeps the replay law: the replay position of a domain in RESTORING names an entry of its list, and a
retry note belongs to a domain still in the state that asked for the very work it names, CHECKING for a probe and
RESTORING at that entry for a replay write, in the stay that was granted it (the mark of a grant is log entry 16). -/
def Obligations.StepKeepsReplayAndNoteLaw : Prop :=
  ∀ s t : State, ReplayOk s → NotesOk s → step s = .next t → ReplayOk t ∧ NotesOk t

/-- Every step keeps every setting in its range, and every domain's attempt number as its state allows. -/
def Obligations.StepKeepsSettingsLaw : Prop :=
  ∀ s t : State, SettingsOk s → step s = .next t → SettingsOk t

/-- Every step keeps the receiver's law, and every entry's tag and payload as a request frame can give them. -/
def Obligations.StepKeepsReceiverLaw : Prop :=
  ∀ s t : State, ReceiverOk s → EntriesOk s → step s = .next t → ReceiverOk t ∧ EntriesOk t

end Statements
end

