-- ==== Sys2Proof/Laws/State.lean ====
section
/-! SUPPORT. One lemma per field per update of State, so that no proof unfolds a record update; and reading a domain
after an update. -/
namespace Sys2Proof.Machine

/-! `withUport` -/

@[simp] theorem State.withUport_uport (s : State) (v : UPort) : (s.withUport v).uport = v := rfl
@[simp] theorem State.withUport_entries (s : State) (v : UPort) : (s.withUport v).entries = s.entries := rfl
@[simp] theorem State.withUport_replyQueue (s : State) (v : UPort) : (s.withUport v).replyQueue = s.replyQueue := rfl
@[simp] theorem State.withUport_parkLimit (s : State) (v : UPort) : (s.withUport v).parkLimit = s.parkLimit := rfl
@[simp] theorem State.withUport_windows (s : State) (v : UPort) : (s.withUport v).windows = s.windows := rfl
@[simp] theorem State.withUport_hits (s : State) (v : UPort) : (s.withUport v).hits = s.hits := rfl
@[simp] theorem State.withUport_domains (s : State) (v : UPort) : (s.withUport v).domains = s.domains := rfl
@[simp] theorem State.withUport_pg (s : State) (v : UPort) : (s.withUport v).pg = s.pg := rfl
@[simp] theorem State.withUport_shadow (s : State) (v : UPort) : (s.withUport v).shadow = s.shadow := rfl
@[simp] theorem State.withUport_sport (s : State) (v : UPort) : (s.withUport v).sport = s.sport := rfl
@[simp] theorem State.withUport_events (s : State) (v : UPort) : (s.withUport v).events = s.events := rfl
@[simp] theorem State.withUport_straps (s : State) (v : UPort) : (s.withUport v).straps = s.straps := rfl
@[simp] theorem State.withUport_pending (s : State) (v : UPort) : (s.withUport v).pending = s.pending := rfl
@[simp] theorem State.dom_withUport (s : State) (v : UPort) (d : DomainId) : (s.withUport v).dom d = s.dom d := rfl

/-! `withEntries` -/

@[simp] theorem State.withEntries_uport (s : State) (v : List Entry) : (s.withEntries v).uport = s.uport := rfl
@[simp] theorem State.withEntries_entries (s : State) (v : List Entry) : (s.withEntries v).entries = v := rfl
@[simp] theorem State.withEntries_replyQueue (s : State) (v : List Entry) : (s.withEntries v).replyQueue = s.replyQueue := rfl
@[simp] theorem State.withEntries_parkLimit (s : State) (v : List Entry) : (s.withEntries v).parkLimit = s.parkLimit := rfl
@[simp] theorem State.withEntries_windows (s : State) (v : List Entry) : (s.withEntries v).windows = s.windows := rfl
@[simp] theorem State.withEntries_hits (s : State) (v : List Entry) : (s.withEntries v).hits = s.hits := rfl
@[simp] theorem State.withEntries_domains (s : State) (v : List Entry) : (s.withEntries v).domains = s.domains := rfl
@[simp] theorem State.withEntries_pg (s : State) (v : List Entry) : (s.withEntries v).pg = s.pg := rfl
@[simp] theorem State.withEntries_shadow (s : State) (v : List Entry) : (s.withEntries v).shadow = s.shadow := rfl
@[simp] theorem State.withEntries_sport (s : State) (v : List Entry) : (s.withEntries v).sport = s.sport := rfl
@[simp] theorem State.withEntries_events (s : State) (v : List Entry) : (s.withEntries v).events = s.events := rfl
@[simp] theorem State.withEntries_straps (s : State) (v : List Entry) : (s.withEntries v).straps = s.straps := rfl
@[simp] theorem State.withEntries_pending (s : State) (v : List Entry) : (s.withEntries v).pending = s.pending := rfl
@[simp] theorem State.dom_withEntries (s : State) (v : List Entry) (d : DomainId) : (s.withEntries v).dom d = s.dom d := rfl

/-! `withReplyQueue` -/

@[simp] theorem State.withReplyQueue_uport (s : State) (v : List Byte) : (s.withReplyQueue v).uport = s.uport := rfl
@[simp] theorem State.withReplyQueue_entries (s : State) (v : List Byte) : (s.withReplyQueue v).entries = s.entries := rfl
@[simp] theorem State.withReplyQueue_replyQueue (s : State) (v : List Byte) : (s.withReplyQueue v).replyQueue = v := rfl
@[simp] theorem State.withReplyQueue_parkLimit (s : State) (v : List Byte) : (s.withReplyQueue v).parkLimit = s.parkLimit := rfl
@[simp] theorem State.withReplyQueue_windows (s : State) (v : List Byte) : (s.withReplyQueue v).windows = s.windows := rfl
@[simp] theorem State.withReplyQueue_hits (s : State) (v : List Byte) : (s.withReplyQueue v).hits = s.hits := rfl
@[simp] theorem State.withReplyQueue_domains (s : State) (v : List Byte) : (s.withReplyQueue v).domains = s.domains := rfl
@[simp] theorem State.withReplyQueue_pg (s : State) (v : List Byte) : (s.withReplyQueue v).pg = s.pg := rfl
@[simp] theorem State.withReplyQueue_shadow (s : State) (v : List Byte) : (s.withReplyQueue v).shadow = s.shadow := rfl
@[simp] theorem State.withReplyQueue_sport (s : State) (v : List Byte) : (s.withReplyQueue v).sport = s.sport := rfl
@[simp] theorem State.withReplyQueue_events (s : State) (v : List Byte) : (s.withReplyQueue v).events = s.events := rfl
@[simp] theorem State.withReplyQueue_straps (s : State) (v : List Byte) : (s.withReplyQueue v).straps = s.straps := rfl
@[simp] theorem State.withReplyQueue_pending (s : State) (v : List Byte) : (s.withReplyQueue v).pending = s.pending := rfl
@[simp] theorem State.dom_withReplyQueue (s : State) (v : List Byte) (d : DomainId) : (s.withReplyQueue v).dom d = s.dom d := rfl

/-! `withParkLimit` -/

@[simp] theorem State.withParkLimit_uport (s : State) (v : Byte) : (s.withParkLimit v).uport = s.uport := rfl
@[simp] theorem State.withParkLimit_entries (s : State) (v : Byte) : (s.withParkLimit v).entries = s.entries := rfl
@[simp] theorem State.withParkLimit_replyQueue (s : State) (v : Byte) : (s.withParkLimit v).replyQueue = s.replyQueue := rfl
@[simp] theorem State.withParkLimit_parkLimit (s : State) (v : Byte) : (s.withParkLimit v).parkLimit = v := rfl
@[simp] theorem State.withParkLimit_windows (s : State) (v : Byte) : (s.withParkLimit v).windows = s.windows := rfl
@[simp] theorem State.withParkLimit_hits (s : State) (v : Byte) : (s.withParkLimit v).hits = s.hits := rfl
@[simp] theorem State.withParkLimit_domains (s : State) (v : Byte) : (s.withParkLimit v).domains = s.domains := rfl
@[simp] theorem State.withParkLimit_pg (s : State) (v : Byte) : (s.withParkLimit v).pg = s.pg := rfl
@[simp] theorem State.withParkLimit_shadow (s : State) (v : Byte) : (s.withParkLimit v).shadow = s.shadow := rfl
@[simp] theorem State.withParkLimit_sport (s : State) (v : Byte) : (s.withParkLimit v).sport = s.sport := rfl
@[simp] theorem State.withParkLimit_events (s : State) (v : Byte) : (s.withParkLimit v).events = s.events := rfl
@[simp] theorem State.withParkLimit_straps (s : State) (v : Byte) : (s.withParkLimit v).straps = s.straps := rfl
@[simp] theorem State.withParkLimit_pending (s : State) (v : Byte) : (s.withParkLimit v).pending = s.pending := rfl
@[simp] theorem State.dom_withParkLimit (s : State) (v : Byte) (d : DomainId) : (s.withParkLimit v).dom d = s.dom d := rfl

/-! `withWindows` -/

@[simp] theorem State.withWindows_uport (s : State) (v : Vector Window 32) : (s.withWindows v).uport = s.uport := rfl
@[simp] theorem State.withWindows_entries (s : State) (v : Vector Window 32) : (s.withWindows v).entries = s.entries := rfl
@[simp] theorem State.withWindows_replyQueue (s : State) (v : Vector Window 32) : (s.withWindows v).replyQueue = s.replyQueue := rfl
@[simp] theorem State.withWindows_parkLimit (s : State) (v : Vector Window 32) : (s.withWindows v).parkLimit = s.parkLimit := rfl
@[simp] theorem State.withWindows_windows (s : State) (v : Vector Window 32) : (s.withWindows v).windows = v := rfl
@[simp] theorem State.withWindows_hits (s : State) (v : Vector Window 32) : (s.withWindows v).hits = s.hits := rfl
@[simp] theorem State.withWindows_domains (s : State) (v : Vector Window 32) : (s.withWindows v).domains = s.domains := rfl
@[simp] theorem State.withWindows_pg (s : State) (v : Vector Window 32) : (s.withWindows v).pg = s.pg := rfl
@[simp] theorem State.withWindows_shadow (s : State) (v : Vector Window 32) : (s.withWindows v).shadow = s.shadow := rfl
@[simp] theorem State.withWindows_sport (s : State) (v : Vector Window 32) : (s.withWindows v).sport = s.sport := rfl
@[simp] theorem State.withWindows_events (s : State) (v : Vector Window 32) : (s.withWindows v).events = s.events := rfl
@[simp] theorem State.withWindows_straps (s : State) (v : Vector Window 32) : (s.withWindows v).straps = s.straps := rfl
@[simp] theorem State.withWindows_pending (s : State) (v : Vector Window 32) : (s.withWindows v).pending = s.pending := rfl
@[simp] theorem State.dom_withWindows (s : State) (v : Vector Window 32) (d : DomainId) : (s.withWindows v).dom d = s.dom d := rfl

/-! `withHits` -/

@[simp] theorem State.withHits_uport (s : State) (v : Vector Half 32) : (s.withHits v).uport = s.uport := rfl
@[simp] theorem State.withHits_entries (s : State) (v : Vector Half 32) : (s.withHits v).entries = s.entries := rfl
@[simp] theorem State.withHits_replyQueue (s : State) (v : Vector Half 32) : (s.withHits v).replyQueue = s.replyQueue := rfl
@[simp] theorem State.withHits_parkLimit (s : State) (v : Vector Half 32) : (s.withHits v).parkLimit = s.parkLimit := rfl
@[simp] theorem State.withHits_windows (s : State) (v : Vector Half 32) : (s.withHits v).windows = s.windows := rfl
@[simp] theorem State.withHits_hits (s : State) (v : Vector Half 32) : (s.withHits v).hits = v := rfl
@[simp] theorem State.withHits_domains (s : State) (v : Vector Half 32) : (s.withHits v).domains = s.domains := rfl
@[simp] theorem State.withHits_pg (s : State) (v : Vector Half 32) : (s.withHits v).pg = s.pg := rfl
@[simp] theorem State.withHits_shadow (s : State) (v : Vector Half 32) : (s.withHits v).shadow = s.shadow := rfl
@[simp] theorem State.withHits_sport (s : State) (v : Vector Half 32) : (s.withHits v).sport = s.sport := rfl
@[simp] theorem State.withHits_events (s : State) (v : Vector Half 32) : (s.withHits v).events = s.events := rfl
@[simp] theorem State.withHits_straps (s : State) (v : Vector Half 32) : (s.withHits v).straps = s.straps := rfl
@[simp] theorem State.withHits_pending (s : State) (v : Vector Half 32) : (s.withHits v).pending = s.pending := rfl
@[simp] theorem State.dom_withHits (s : State) (v : Vector Half 32) (d : DomainId) : (s.withHits v).dom d = s.dom d := rfl

/-! `withDomains` -/

@[simp] theorem State.withDomains_uport (s : State) (v : Vector Domain 8) : (s.withDomains v).uport = s.uport := rfl
@[simp] theorem State.withDomains_entries (s : State) (v : Vector Domain 8) : (s.withDomains v).entries = s.entries := rfl
@[simp] theorem State.withDomains_replyQueue (s : State) (v : Vector Domain 8) : (s.withDomains v).replyQueue = s.replyQueue := rfl
@[simp] theorem State.withDomains_parkLimit (s : State) (v : Vector Domain 8) : (s.withDomains v).parkLimit = s.parkLimit := rfl
@[simp] theorem State.withDomains_windows (s : State) (v : Vector Domain 8) : (s.withDomains v).windows = s.windows := rfl
@[simp] theorem State.withDomains_hits (s : State) (v : Vector Domain 8) : (s.withDomains v).hits = s.hits := rfl
@[simp] theorem State.withDomains_domains (s : State) (v : Vector Domain 8) : (s.withDomains v).domains = v := rfl
@[simp] theorem State.withDomains_pg (s : State) (v : Vector Domain 8) : (s.withDomains v).pg = s.pg := rfl
@[simp] theorem State.withDomains_shadow (s : State) (v : Vector Domain 8) : (s.withDomains v).shadow = s.shadow := rfl
@[simp] theorem State.withDomains_sport (s : State) (v : Vector Domain 8) : (s.withDomains v).sport = s.sport := rfl
@[simp] theorem State.withDomains_events (s : State) (v : Vector Domain 8) : (s.withDomains v).events = s.events := rfl
@[simp] theorem State.withDomains_straps (s : State) (v : Vector Domain 8) : (s.withDomains v).straps = s.straps := rfl
@[simp] theorem State.withDomains_pending (s : State) (v : Vector Domain 8) : (s.withDomains v).pending = s.pending := rfl

/-! `withPg` -/

@[simp] theorem State.withPg_uport (s : State) (v : Vector Filter 4) : (s.withPg v).uport = s.uport := rfl
@[simp] theorem State.withPg_entries (s : State) (v : Vector Filter 4) : (s.withPg v).entries = s.entries := rfl
@[simp] theorem State.withPg_replyQueue (s : State) (v : Vector Filter 4) : (s.withPg v).replyQueue = s.replyQueue := rfl
@[simp] theorem State.withPg_parkLimit (s : State) (v : Vector Filter 4) : (s.withPg v).parkLimit = s.parkLimit := rfl
@[simp] theorem State.withPg_windows (s : State) (v : Vector Filter 4) : (s.withPg v).windows = s.windows := rfl
@[simp] theorem State.withPg_hits (s : State) (v : Vector Filter 4) : (s.withPg v).hits = s.hits := rfl
@[simp] theorem State.withPg_domains (s : State) (v : Vector Filter 4) : (s.withPg v).domains = s.domains := rfl
@[simp] theorem State.withPg_pg (s : State) (v : Vector Filter 4) : (s.withPg v).pg = v := rfl
@[simp] theorem State.withPg_shadow (s : State) (v : Vector Filter 4) : (s.withPg v).shadow = s.shadow := rfl
@[simp] theorem State.withPg_sport (s : State) (v : Vector Filter 4) : (s.withPg v).sport = s.sport := rfl
@[simp] theorem State.withPg_events (s : State) (v : Vector Filter 4) : (s.withPg v).events = s.events := rfl
@[simp] theorem State.withPg_straps (s : State) (v : Vector Filter 4) : (s.withPg v).straps = s.straps := rfl
@[simp] theorem State.withPg_pending (s : State) (v : Vector Filter 4) : (s.withPg v).pending = s.pending := rfl
@[simp] theorem State.dom_withPg (s : State) (v : Vector Filter 4) (d : DomainId) : (s.withPg v).dom d = s.dom d := rfl

/-! `withShadow` -/

@[simp] theorem State.withShadow_uport (s : State) (v : ShadowStore) : (s.withShadow v).uport = s.uport := rfl
@[simp] theorem State.withShadow_entries (s : State) (v : ShadowStore) : (s.withShadow v).entries = s.entries := rfl
@[simp] theorem State.withShadow_replyQueue (s : State) (v : ShadowStore) : (s.withShadow v).replyQueue = s.replyQueue := rfl
@[simp] theorem State.withShadow_parkLimit (s : State) (v : ShadowStore) : (s.withShadow v).parkLimit = s.parkLimit := rfl
@[simp] theorem State.withShadow_windows (s : State) (v : ShadowStore) : (s.withShadow v).windows = s.windows := rfl
@[simp] theorem State.withShadow_hits (s : State) (v : ShadowStore) : (s.withShadow v).hits = s.hits := rfl
@[simp] theorem State.withShadow_domains (s : State) (v : ShadowStore) : (s.withShadow v).domains = s.domains := rfl
@[simp] theorem State.withShadow_pg (s : State) (v : ShadowStore) : (s.withShadow v).pg = s.pg := rfl
@[simp] theorem State.withShadow_shadow (s : State) (v : ShadowStore) : (s.withShadow v).shadow = v := rfl
@[simp] theorem State.withShadow_sport (s : State) (v : ShadowStore) : (s.withShadow v).sport = s.sport := rfl
@[simp] theorem State.withShadow_events (s : State) (v : ShadowStore) : (s.withShadow v).events = s.events := rfl
@[simp] theorem State.withShadow_straps (s : State) (v : ShadowStore) : (s.withShadow v).straps = s.straps := rfl
@[simp] theorem State.withShadow_pending (s : State) (v : ShadowStore) : (s.withShadow v).pending = s.pending := rfl
@[simp] theorem State.dom_withShadow (s : State) (v : ShadowStore) (d : DomainId) : (s.withShadow v).dom d = s.dom d := rfl

/-! `withSport` -/

@[simp] theorem State.withSport_uport (s : State) (v : SPort) : (s.withSport v).uport = s.uport := rfl
@[simp] theorem State.withSport_entries (s : State) (v : SPort) : (s.withSport v).entries = s.entries := rfl
@[simp] theorem State.withSport_replyQueue (s : State) (v : SPort) : (s.withSport v).replyQueue = s.replyQueue := rfl
@[simp] theorem State.withSport_parkLimit (s : State) (v : SPort) : (s.withSport v).parkLimit = s.parkLimit := rfl
@[simp] theorem State.withSport_windows (s : State) (v : SPort) : (s.withSport v).windows = s.windows := rfl
@[simp] theorem State.withSport_hits (s : State) (v : SPort) : (s.withSport v).hits = s.hits := rfl
@[simp] theorem State.withSport_domains (s : State) (v : SPort) : (s.withSport v).domains = s.domains := rfl
@[simp] theorem State.withSport_pg (s : State) (v : SPort) : (s.withSport v).pg = s.pg := rfl
@[simp] theorem State.withSport_shadow (s : State) (v : SPort) : (s.withSport v).shadow = s.shadow := rfl
@[simp] theorem State.withSport_sport (s : State) (v : SPort) : (s.withSport v).sport = v := rfl
@[simp] theorem State.withSport_events (s : State) (v : SPort) : (s.withSport v).events = s.events := rfl
@[simp] theorem State.withSport_straps (s : State) (v : SPort) : (s.withSport v).straps = s.straps := rfl
@[simp] theorem State.withSport_pending (s : State) (v : SPort) : (s.withSport v).pending = s.pending := rfl
@[simp] theorem State.dom_withSport (s : State) (v : SPort) (d : DomainId) : (s.withSport v).dom d = s.dom d := rfl

/-! `withEvents` -/

@[simp] theorem State.withEvents_uport (s : State) (v : EventUnit) : (s.withEvents v).uport = s.uport := rfl
@[simp] theorem State.withEvents_entries (s : State) (v : EventUnit) : (s.withEvents v).entries = s.entries := rfl
@[simp] theorem State.withEvents_replyQueue (s : State) (v : EventUnit) : (s.withEvents v).replyQueue = s.replyQueue := rfl
@[simp] theorem State.withEvents_parkLimit (s : State) (v : EventUnit) : (s.withEvents v).parkLimit = s.parkLimit := rfl
@[simp] theorem State.withEvents_windows (s : State) (v : EventUnit) : (s.withEvents v).windows = s.windows := rfl
@[simp] theorem State.withEvents_hits (s : State) (v : EventUnit) : (s.withEvents v).hits = s.hits := rfl
@[simp] theorem State.withEvents_domains (s : State) (v : EventUnit) : (s.withEvents v).domains = s.domains := rfl
@[simp] theorem State.withEvents_pg (s : State) (v : EventUnit) : (s.withEvents v).pg = s.pg := rfl
@[simp] theorem State.withEvents_shadow (s : State) (v : EventUnit) : (s.withEvents v).shadow = s.shadow := rfl
@[simp] theorem State.withEvents_sport (s : State) (v : EventUnit) : (s.withEvents v).sport = s.sport := rfl
@[simp] theorem State.withEvents_events (s : State) (v : EventUnit) : (s.withEvents v).events = v := rfl
@[simp] theorem State.withEvents_straps (s : State) (v : EventUnit) : (s.withEvents v).straps = s.straps := rfl
@[simp] theorem State.withEvents_pending (s : State) (v : EventUnit) : (s.withEvents v).pending = s.pending := rfl
@[simp] theorem State.dom_withEvents (s : State) (v : EventUnit) (d : DomainId) : (s.withEvents v).dom d = s.dom d := rfl

/-! `withPending` -/

@[simp] theorem State.withPending_uport (s : State) (v : List Instr) : (s.withPending v).uport = s.uport := rfl
@[simp] theorem State.withPending_entries (s : State) (v : List Instr) : (s.withPending v).entries = s.entries := rfl
@[simp] theorem State.withPending_replyQueue (s : State) (v : List Instr) : (s.withPending v).replyQueue = s.replyQueue := rfl
@[simp] theorem State.withPending_parkLimit (s : State) (v : List Instr) : (s.withPending v).parkLimit = s.parkLimit := rfl
@[simp] theorem State.withPending_windows (s : State) (v : List Instr) : (s.withPending v).windows = s.windows := rfl
@[simp] theorem State.withPending_hits (s : State) (v : List Instr) : (s.withPending v).hits = s.hits := rfl
@[simp] theorem State.withPending_domains (s : State) (v : List Instr) : (s.withPending v).domains = s.domains := rfl
@[simp] theorem State.withPending_pg (s : State) (v : List Instr) : (s.withPending v).pg = s.pg := rfl
@[simp] theorem State.withPending_shadow (s : State) (v : List Instr) : (s.withPending v).shadow = s.shadow := rfl
@[simp] theorem State.withPending_sport (s : State) (v : List Instr) : (s.withPending v).sport = s.sport := rfl
@[simp] theorem State.withPending_events (s : State) (v : List Instr) : (s.withPending v).events = s.events := rfl
@[simp] theorem State.withPending_straps (s : State) (v : List Instr) : (s.withPending v).straps = s.straps := rfl
@[simp] theorem State.withPending_pending (s : State) (v : List Instr) : (s.withPending v).pending = v := rfl
@[simp] theorem State.dom_withPending (s : State) (v : List Instr) (d : DomainId) : (s.withPending v).dom d = s.dom d := rfl

/-! Vectors read at an index -/

theorem get_eq_getElem {n : Nat} {α : Type} (v : Vector α n) (i : Fin n) : v.get i = v[i.val] := rfl

@[simp] theorem get_set_self {n : Nat} {α : Type} (v : Vector α n) (i : Fin n) (x : α) :
    (v.set i.val x i.isLt).get i = x := by
  simp [get_eq_getElem]

theorem get_set_ne {n : Nat} {α : Type} (v : Vector α n) {i j : Fin n} (x : α) (h : j ≠ i) :
    (v.set i.val x i.isLt).get j = v.get j := by
  have : i.val ≠ j.val := fun he => h (Fin.ext he.symm)
  simp [get_eq_getElem, this]

@[simp] theorem get_replicate {n : Nat} {α : Type} (x : α) (i : Fin n) : (Vector.replicate n x).get i = x := by
  simp [get_eq_getElem]

/-- Reading a vector written out from its elements' indices. -/
@[simp] theorem get_tabulate {n : Nat} {α : Type} (f : Fin n → α) (i : Fin n) : (tabulate n f).get i = f i := by
  simp [get_eq_getElem, tabulate]

/-! Domains -/

@[simp] theorem State.dom_withDomains (s : State) (v : Vector Domain 8) (d : DomainId) :
    (s.withDomains v).dom d = v.get d := rfl

@[simp] theorem State.dom_setDom_self (s : State) (d : DomainId) (x : Domain) : (s.setDom d x).dom d = x :=
  get_set_self _ _ _

theorem State.dom_setDom_ne (s : State) {d e : DomainId} (x : Domain) (h : e ≠ d) :
    (s.setDom d x).dom e = s.dom e :=
  get_set_ne _ _ h

@[simp] theorem State.dom_setDomState_self (s : State) (d : DomainId) (x : DomState) :
    (s.setDomState d x).dom d = { s.dom d with state := x } := by
  simp [State.setDomState]

theorem State.dom_setDomState_ne (s : State) {d e : DomainId} (x : DomState) (h : e ≠ d) :
    (s.setDomState d x).dom e = s.dom e := by
  simp [State.setDomState, State.dom_setDom_ne, h]

/-- Every domain is listed once. -/
@[simp] theorem mem_allDomains (d : DomainId) : d ∈ allDomains := by revert d; decide

/-! Setting a class -/

@[simp] theorem State.raise_uport (s : State) (c : EventClass) : (s.raise c).uport = s.uport := rfl
@[simp] theorem State.raise_entries (s : State) (c : EventClass) : (s.raise c).entries = s.entries := rfl
@[simp] theorem State.raise_replyQueue (s : State) (c : EventClass) : (s.raise c).replyQueue = s.replyQueue := rfl
@[simp] theorem State.raise_parkLimit (s : State) (c : EventClass) : (s.raise c).parkLimit = s.parkLimit := rfl
@[simp] theorem State.raise_windows (s : State) (c : EventClass) : (s.raise c).windows = s.windows := rfl
@[simp] theorem State.raise_hits (s : State) (c : EventClass) : (s.raise c).hits = s.hits := rfl
@[simp] theorem State.raise_domains (s : State) (c : EventClass) : (s.raise c).domains = s.domains := rfl
@[simp] theorem State.raise_pg (s : State) (c : EventClass) : (s.raise c).pg = s.pg := rfl
@[simp] theorem State.raise_shadow (s : State) (c : EventClass) : (s.raise c).shadow = s.shadow := rfl
@[simp] theorem State.raise_sport (s : State) (c : EventClass) : (s.raise c).sport = s.sport := rfl
@[simp] theorem State.raise_straps (s : State) (c : EventClass) : (s.raise c).straps = s.straps := rfl
@[simp] theorem State.raise_pending (s : State) (c : EventClass) : (s.raise c).pending = s.pending := rfl
@[simp] theorem State.raise_status (s : State) (c : EventClass) :
    (s.raise c).events.status = s.events.status ||| c.bit := rfl
@[simp] theorem State.raise_enable (s : State) (c : EventClass) : (s.raise c).events.enable = s.events.enable := rfl
@[simp] theorem State.raise_inputs (s : State) (c : EventClass) : (s.raise c).events.inputs = s.events.inputs := rfl
@[simp] theorem State.dom_raise (s : State) (c : EventClass) (d : DomainId) : (s.raise c).dom d = s.dom d := rfl

/-! The end of an event -/

@[simp] theorem announce_entries (s t : State) : (announce s t).entries = t.entries := by
  unfold announce; split <;> rfl
@[simp] theorem announce_replyQueue (s t : State) : (announce s t).replyQueue = t.replyQueue := by
  unfold announce; split <;> rfl
@[simp] theorem announce_parkLimit (s t : State) : (announce s t).parkLimit = t.parkLimit := by
  unfold announce; split <;> rfl
@[simp] theorem announce_windows (s t : State) : (announce s t).windows = t.windows := by
  unfold announce; split <;> rfl
@[simp] theorem announce_hits (s t : State) : (announce s t).hits = t.hits := by
  unfold announce; split <;> rfl
@[simp] theorem announce_domains (s t : State) : (announce s t).domains = t.domains := by
  unfold announce; split <;> rfl
@[simp] theorem announce_pg (s t : State) : (announce s t).pg = t.pg := by
  unfold announce; split <;> rfl
@[simp] theorem announce_shadow (s t : State) : (announce s t).shadow = t.shadow := by
  unfold announce; split <;> rfl
@[simp] theorem announce_sport (s t : State) : (announce s t).sport = t.sport := by
  unfold announce; split <;> rfl
@[simp] theorem announce_events (s t : State) : (announce s t).events = t.events := by
  unfold announce; split <;> rfl
@[simp] theorem announce_straps (s t : State) : (announce s t).straps = t.straps := by
  unfold announce; split <;> rfl
@[simp] theorem announce_pending (s t : State) : (announce s t).pending = t.pending := by
  unfold announce; split <;> rfl
@[simp] theorem dom_announce (s t : State) (d : DomainId) : (announce s t).dom d = t.dom d := by
  unfold announce; split <;> rfl

/-- What the end of an event does to the U-port: notice-pending alone, raised where the live classes go from empty to
non-empty (R152). -/
theorem announce_uport (s t : State) :
    (announce s t).uport =
      { t.uport with noticePending := t.uport.noticePending || (s.events.live == 0 && t.events.live != 0) } := by
  unfold announce
  split
  next h =>
    have hs : (s.events.live == 0) = true := by simpa using h.1
    have ht : (t.events.live != 0) = true := by simpa using h.2
    simp only [hs, ht, Bool.and_self, Bool.or_true]
    rfl
  next h =>
    by_cases hs : s.events.live = 0
    · have ht : t.events.live = 0 := Decidable.of_not_not fun ht => h ⟨hs, ht⟩
      have ht' : (t.events.live != 0) = false := by simpa using ht
      simp only [ht', Bool.and_false, Bool.or_false]
    · have hs' : (s.events.live == 0) = false := by simpa using hs
      simp only [hs', Bool.false_and, Bool.or_false]

/-- A command that ends by `finishEvent` answers a next state. -/
theorem finishEvent_eq (s t : State) : finishEvent s t = .next (announce s t) := rfl

end Sys2Proof.Machine
end

