-- ==== Sys2Proof/Laws/Frames.lean ====
section
/-! SUPPORT. The frame of every shared operation: each block it does not change, read after it, is as before. -/
namespace Sys2Proof.Machine

@[simp] theorem State.setDom_frame (s : State) (d : DomainId) (x : Domain) :
    (s.setDom d x).uport = s.uport ∧ (s.setDom d x).entries = s.entries ∧
      (s.setDom d x).replyQueue = s.replyQueue ∧ (s.setDom d x).parkLimit = s.parkLimit ∧
      (s.setDom d x).windows = s.windows ∧ (s.setDom d x).hits = s.hits ∧ (s.setDom d x).pg = s.pg ∧
      (s.setDom d x).shadow = s.shadow ∧ (s.setDom d x).sport = s.sport ∧ (s.setDom d x).events = s.events ∧
      (s.setDom d x).straps = s.straps ∧ (s.setDom d x).pending = s.pending := by
  unfold State.setDom; repeat' split
  all_goals simp

@[simp] theorem State.setDomState_frame (s : State) (d : DomainId) (x : DomState) :
    (s.setDomState d x).uport = s.uport ∧ (s.setDomState d x).entries = s.entries ∧
      (s.setDomState d x).replyQueue = s.replyQueue ∧ (s.setDomState d x).parkLimit = s.parkLimit ∧
      (s.setDomState d x).windows = s.windows ∧ (s.setDomState d x).hits = s.hits ∧
      (s.setDomState d x).pg = s.pg ∧ (s.setDomState d x).shadow = s.shadow ∧
      (s.setDomState d x).sport = s.sport ∧ (s.setDomState d x).events = s.events ∧
      (s.setDomState d x).straps = s.straps ∧ (s.setDomState d x).pending = s.pending := by
  unfold State.setDomState; repeat' split
  all_goals simp

@[simp] theorem State.setPendingWake_frame (s : State) (d : DomainId) :
    (s.setPendingWake d).uport = s.uport ∧ (s.setPendingWake d).entries = s.entries ∧
      (s.setPendingWake d).replyQueue = s.replyQueue ∧ (s.setPendingWake d).parkLimit = s.parkLimit ∧
      (s.setPendingWake d).windows = s.windows ∧ (s.setPendingWake d).hits = s.hits ∧
      (s.setPendingWake d).pg = s.pg ∧ (s.setPendingWake d).shadow = s.shadow ∧
      (s.setPendingWake d).sport = s.sport ∧ (s.setPendingWake d).events = s.events ∧
      (s.setPendingWake d).straps = s.straps ∧ (s.setPendingWake d).pending = s.pending := by
  unfold State.setPendingWake; repeat' split
  all_goals simp

@[simp] theorem State.enterSettling_frame (s : State) (d : DomainId) :
    (s.enterSettling d).uport = s.uport ∧ (s.enterSettling d).entries = s.entries ∧
      (s.enterSettling d).replyQueue = s.replyQueue ∧ (s.enterSettling d).parkLimit = s.parkLimit ∧
      (s.enterSettling d).windows = s.windows ∧ (s.enterSettling d).hits = s.hits ∧
      (s.enterSettling d).pg = s.pg ∧ (s.enterSettling d).shadow = s.shadow ∧
      (s.enterSettling d).sport = s.sport ∧ (s.enterSettling d).events = s.events ∧
      (s.enterSettling d).straps = s.straps ∧ (s.enterSettling d).pending = s.pending := by
  unfold State.enterSettling; repeat' split
  all_goals simp

@[simp] theorem State.wakeStart_frame (s : State) (d : DomainId) :
    (s.wakeStart d).uport = s.uport ∧ (s.wakeStart d).entries = s.entries ∧
      (s.wakeStart d).replyQueue = s.replyQueue ∧ (s.wakeStart d).parkLimit = s.parkLimit ∧
      (s.wakeStart d).windows = s.windows ∧ (s.wakeStart d).hits = s.hits ∧ (s.wakeStart d).pg = s.pg ∧
      (s.wakeStart d).shadow = s.shadow ∧ (s.wakeStart d).sport = s.sport ∧ (s.wakeStart d).events = s.events ∧
      (s.wakeStart d).straps = s.straps ∧ (s.wakeStart d).pending = s.pending := by
  unfold State.wakeStart; repeat' split
  all_goals simp

@[simp] theorem State.minimumOffDone_frame (s : State) (d : DomainId) :
    (s.minimumOffDone d).uport = s.uport ∧ (s.minimumOffDone d).entries = s.entries ∧
      (s.minimumOffDone d).replyQueue = s.replyQueue ∧ (s.minimumOffDone d).parkLimit = s.parkLimit ∧
      (s.minimumOffDone d).windows = s.windows ∧ (s.minimumOffDone d).hits = s.hits ∧
      (s.minimumOffDone d).pg = s.pg ∧ (s.minimumOffDone d).shadow = s.shadow ∧
      (s.minimumOffDone d).sport = s.sport ∧ (s.minimumOffDone d).events = s.events ∧
      (s.minimumOffDone d).straps = s.straps ∧ (s.minimumOffDone d).pending = s.pending := by
  unfold State.minimumOffDone; repeat' split
  all_goals simp

@[simp] theorem State.enterCooldown_frame (s : State) (d : DomainId) :
    (s.enterCooldown d).uport = s.uport ∧ (s.enterCooldown d).entries = s.entries ∧
      (s.enterCooldown d).replyQueue = s.replyQueue ∧ (s.enterCooldown d).parkLimit = s.parkLimit ∧
      (s.enterCooldown d).windows = s.windows ∧ (s.enterCooldown d).hits = s.hits ∧
      (s.enterCooldown d).pg = s.pg ∧ (s.enterCooldown d).shadow = s.shadow ∧
      (s.enterCooldown d).sport = s.sport ∧ (s.enterCooldown d).events = s.events ∧
      (s.enterCooldown d).straps = s.straps ∧ (s.enterCooldown d).pending = s.pending := by
  unfold State.enterCooldown; repeat' split
  all_goals simp

@[simp] theorem State.drainCheck_frame (s : State) (d : DomainId) :
    (s.drainCheck d).uport = s.uport ∧ (s.drainCheck d).entries = s.entries ∧
      (s.drainCheck d).replyQueue = s.replyQueue ∧ (s.drainCheck d).parkLimit = s.parkLimit ∧
      (s.drainCheck d).windows = s.windows ∧ (s.drainCheck d).hits = s.hits ∧ (s.drainCheck d).pg = s.pg ∧
      (s.drainCheck d).shadow = s.shadow ∧ (s.drainCheck d).sport = s.sport ∧
      (s.drainCheck d).straps = s.straps ∧ (s.drainCheck d).pending = s.pending := by
  unfold State.drainCheck; repeat' split
  all_goals simp

@[simp] theorem State.enterDraining_frame (s : State) (d : DomainId) :
    (s.enterDraining d).uport = s.uport ∧ (s.enterDraining d).entries = s.entries ∧
      (s.enterDraining d).replyQueue = s.replyQueue ∧ (s.enterDraining d).parkLimit = s.parkLimit ∧
      (s.enterDraining d).windows = s.windows ∧ (s.enterDraining d).hits = s.hits ∧
      (s.enterDraining d).pg = s.pg ∧ (s.enterDraining d).shadow = s.shadow ∧
      (s.enterDraining d).sport = s.sport ∧ (s.enterDraining d).straps = s.straps ∧
      (s.enterDraining d).pending = s.pending := by
  unfold State.enterDraining; repeat' split
  all_goals simp

@[simp] theorem State.activity_frame (s : State) (d : DomainId) :
    (s.activity d).uport = s.uport ∧ (s.activity d).entries = s.entries ∧
      (s.activity d).replyQueue = s.replyQueue ∧ (s.activity d).parkLimit = s.parkLimit ∧
      (s.activity d).windows = s.windows ∧ (s.activity d).hits = s.hits ∧ (s.activity d).pg = s.pg ∧
      (s.activity d).shadow = s.shadow ∧ (s.activity d).sport = s.sport ∧ (s.activity d).events = s.events ∧
      (s.activity d).straps = s.straps ∧ (s.activity d).pending = s.pending := by
  unfold State.activity; repeat' split
  all_goals simp

@[simp] theorem State.wakeAction_frame (s : State) (d : DomainId) :
    (s.wakeAction d).uport = s.uport ∧ (s.wakeAction d).entries = s.entries ∧
      (s.wakeAction d).replyQueue = s.replyQueue ∧ (s.wakeAction d).parkLimit = s.parkLimit ∧
      (s.wakeAction d).windows = s.windows ∧ (s.wakeAction d).hits = s.hits ∧ (s.wakeAction d).pg = s.pg ∧
      (s.wakeAction d).shadow = s.shadow ∧ (s.wakeAction d).sport = s.sport ∧
      (s.wakeAction d).events = s.events ∧ (s.wakeAction d).straps = s.straps ∧
      (s.wakeAction d).pending = s.pending := by
  unfold State.wakeAction; repeat' split
  all_goals simp

@[simp] theorem State.arrivalEffect_frame (s : State) (c : ActivityClass) (d : DomainId) :
    (s.arrivalEffect c d).uport = s.uport ∧ (s.arrivalEffect c d).entries = s.entries ∧
      (s.arrivalEffect c d).replyQueue = s.replyQueue ∧ (s.arrivalEffect c d).parkLimit = s.parkLimit ∧
      (s.arrivalEffect c d).windows = s.windows ∧ (s.arrivalEffect c d).hits = s.hits ∧
      (s.arrivalEffect c d).pg = s.pg ∧ (s.arrivalEffect c d).shadow = s.shadow ∧
      (s.arrivalEffect c d).sport = s.sport ∧ (s.arrivalEffect c d).events = s.events ∧
      (s.arrivalEffect c d).straps = s.straps ∧ (s.arrivalEffect c d).pending = s.pending := by
  unfold State.arrivalEffect; repeat' split
  all_goals simp

@[simp] theorem State.clearNote_frame (s : State) (d : DomainId) :
    (s.clearNote d).uport = s.uport ∧ (s.clearNote d).entries = s.entries ∧
      (s.clearNote d).replyQueue = s.replyQueue ∧ (s.clearNote d).parkLimit = s.parkLimit ∧
      (s.clearNote d).windows = s.windows ∧ (s.clearNote d).hits = s.hits ∧
      (s.clearNote d).domains = s.domains ∧ (s.clearNote d).pg = s.pg ∧ (s.clearNote d).shadow = s.shadow ∧
      (s.clearNote d).events = s.events ∧ (s.clearNote d).straps = s.straps ∧
      (s.clearNote d).pending = s.pending := by
  unfold State.clearNote; repeat' split
  all_goals simp
@[simp] theorem State.dom_clearNote (s : State) (d : DomainId) (x' : DomainId) : (s.clearNote d).dom x' = s.dom x' := by
  simp [State.dom]

@[simp] theorem State.release_frame (s : State) (d : DomainId) :
    (s.release d).uport = s.uport ∧ (s.release d).replyQueue = s.replyQueue ∧
      (s.release d).parkLimit = s.parkLimit ∧ (s.release d).windows = s.windows ∧ (s.release d).hits = s.hits ∧
      (s.release d).domains = s.domains ∧ (s.release d).pg = s.pg ∧ (s.release d).shadow = s.shadow ∧
      (s.release d).sport = s.sport ∧ (s.release d).events = s.events ∧ (s.release d).straps = s.straps ∧
      (s.release d).pending = s.pending := by
  unfold State.release; repeat' split
  all_goals simp
@[simp] theorem State.dom_release (s : State) (d : DomainId) (x' : DomainId) : (s.release d).dom x' = s.dom x' := by
  simp [State.dom]

@[simp] theorem State.reachOn_frame (s : State) (d : DomainId) :
    (s.reachOn d).uport = s.uport ∧ (s.reachOn d).replyQueue = s.replyQueue ∧
      (s.reachOn d).parkLimit = s.parkLimit ∧ (s.reachOn d).windows = s.windows ∧ (s.reachOn d).hits = s.hits ∧
      (s.reachOn d).pg = s.pg ∧ (s.reachOn d).shadow = s.shadow ∧ (s.reachOn d).sport = s.sport ∧
      (s.reachOn d).straps = s.straps ∧ (s.reachOn d).pending = s.pending := by
  unfold State.reachOn; repeat' split
  all_goals simp

@[simp] theorem State.enterRestoring_frame (s : State) (d : DomainId) :
    (s.enterRestoring d).uport = s.uport ∧ (s.enterRestoring d).replyQueue = s.replyQueue ∧
      (s.enterRestoring d).parkLimit = s.parkLimit ∧ (s.enterRestoring d).windows = s.windows ∧
      (s.enterRestoring d).hits = s.hits ∧ (s.enterRestoring d).pg = s.pg ∧
      (s.enterRestoring d).shadow = s.shadow ∧ (s.enterRestoring d).sport = s.sport ∧
      (s.enterRestoring d).straps = s.straps ∧ (s.enterRestoring d).pending = s.pending := by
  unfold State.enterRestoring; repeat' split
  all_goals simp

@[simp] theorem State.enterFault_frame (s : State) (d : DomainId) (c : FaultCause) :
    (s.enterFault d c).uport = s.uport ∧ (s.enterFault d c).entries = s.entries ∧
      (s.enterFault d c).replyQueue = s.replyQueue ∧ (s.enterFault d c).parkLimit = s.parkLimit ∧
      (s.enterFault d c).windows = s.windows ∧ (s.enterFault d c).hits = s.hits ∧ (s.enterFault d c).pg = s.pg ∧
      (s.enterFault d c).shadow = s.shadow ∧ (s.enterFault d c).straps = s.straps ∧
      (s.enterFault d c).pending = s.pending := by
  unfold State.enterFault; repeat' split
  all_goals simp

@[simp] theorem State.countFailure_frame (s : State) (d : DomainId) :
    (s.countFailure d).uport = s.uport ∧ (s.countFailure d).entries = s.entries ∧
      (s.countFailure d).replyQueue = s.replyQueue ∧ (s.countFailure d).parkLimit = s.parkLimit ∧
      (s.countFailure d).windows = s.windows ∧ (s.countFailure d).hits = s.hits ∧ (s.countFailure d).pg = s.pg ∧
      (s.countFailure d).shadow = s.shadow ∧ (s.countFailure d).events = s.events ∧
      (s.countFailure d).straps = s.straps ∧ (s.countFailure d).pending = s.pending := by
  unfold State.countFailure; repeat' split
  all_goals simp

@[simp] theorem State.attemptFails_frame (s : State) (d : DomainId) (c : FaultCause) :
    (s.attemptFails d c).uport = s.uport ∧ (s.attemptFails d c).entries = s.entries ∧
      (s.attemptFails d c).replyQueue = s.replyQueue ∧ (s.attemptFails d c).parkLimit = s.parkLimit ∧
      (s.attemptFails d c).windows = s.windows ∧ (s.attemptFails d c).hits = s.hits ∧
      (s.attemptFails d c).pg = s.pg ∧ (s.attemptFails d c).shadow = s.shadow ∧
      (s.attemptFails d c).straps = s.straps ∧ (s.attemptFails d c).pending = s.pending := by
  unfold State.attemptFails; repeat' split
  all_goals simp

@[simp] theorem State.powerGoodFalls_frame (s : State) (d : DomainId) :
    (s.powerGoodFalls d).uport = s.uport ∧ (s.powerGoodFalls d).entries = s.entries ∧
      (s.powerGoodFalls d).replyQueue = s.replyQueue ∧ (s.powerGoodFalls d).parkLimit = s.parkLimit ∧
      (s.powerGoodFalls d).windows = s.windows ∧ (s.powerGoodFalls d).hits = s.hits ∧
      (s.powerGoodFalls d).pg = s.pg ∧ (s.powerGoodFalls d).shadow = s.shadow ∧
      (s.powerGoodFalls d).straps = s.straps ∧ (s.powerGoodFalls d).pending = s.pending := by
  unfold State.powerGoodFalls; repeat' split
  all_goals simp

@[simp] theorem State.setEntryState_frame (s : State) (t : Byte) (x : EntryState) :
    (s.setEntryState t x).uport = s.uport ∧ (s.setEntryState t x).replyQueue = s.replyQueue ∧
      (s.setEntryState t x).parkLimit = s.parkLimit ∧ (s.setEntryState t x).windows = s.windows ∧
      (s.setEntryState t x).hits = s.hits ∧ (s.setEntryState t x).domains = s.domains ∧
      (s.setEntryState t x).pg = s.pg ∧ (s.setEntryState t x).shadow = s.shadow ∧
      (s.setEntryState t x).sport = s.sport ∧ (s.setEntryState t x).events = s.events ∧
      (s.setEntryState t x).straps = s.straps ∧ (s.setEntryState t x).pending = s.pending := by
  unfold State.setEntryState; repeat' split
  all_goals simp
@[simp] theorem State.dom_setEntryState (s : State) (t : Byte) (x : EntryState) (x' : DomainId) : (s.setEntryState t x).dom x' = s.dom x' := by
  simp [State.dom]

@[simp] theorem State.finishWhere_frame (s : State) (p : Entry → Bool) (x : Status) :
    (s.finishWhere p x).uport = s.uport ∧ (s.finishWhere p x).parkLimit = s.parkLimit ∧
      (s.finishWhere p x).windows = s.windows ∧ (s.finishWhere p x).hits = s.hits ∧
      (s.finishWhere p x).domains = s.domains ∧ (s.finishWhere p x).pg = s.pg ∧
      (s.finishWhere p x).shadow = s.shadow ∧ (s.finishWhere p x).sport = s.sport ∧
      (s.finishWhere p x).events = s.events ∧ (s.finishWhere p x).straps = s.straps ∧
      (s.finishWhere p x).pending = s.pending := by
  unfold State.finishWhere; repeat' split
  all_goals simp
@[simp] theorem State.dom_finishWhere (s : State) (p : Entry → Bool) (x : Status) (x' : DomainId) : (s.finishWhere p x).dom x' = s.dom x' := by
  simp [State.dom]

@[simp] theorem State.finishEntry_frame (s : State) (t : Byte) (x : Status) (r : List Byte) :
    (s.finishEntry t x r).uport = s.uport ∧ (s.finishEntry t x r).parkLimit = s.parkLimit ∧
      (s.finishEntry t x r).windows = s.windows ∧ (s.finishEntry t x r).hits = s.hits ∧
      (s.finishEntry t x r).domains = s.domains ∧ (s.finishEntry t x r).pg = s.pg ∧
      (s.finishEntry t x r).shadow = s.shadow ∧ (s.finishEntry t x r).sport = s.sport ∧
      (s.finishEntry t x r).events = s.events ∧ (s.finishEntry t x r).straps = s.straps ∧
      (s.finishEntry t x r).pending = s.pending := by
  unfold State.finishEntry; repeat' split
  all_goals simp
@[simp] theorem State.dom_finishEntry (s : State) (t : Byte) (x : Status) (r : List Byte) (x' : DomainId) : (s.finishEntry t x r).dom x' = s.dom x' := by
  simp [State.dom]

@[simp] theorem finishFaulted_frame (s t : State) :
    (finishFaulted s t).uport = t.uport ∧ (finishFaulted s t).parkLimit = t.parkLimit ∧
      (finishFaulted s t).windows = t.windows ∧ (finishFaulted s t).hits = t.hits ∧
      (finishFaulted s t).domains = t.domains ∧ (finishFaulted s t).pg = t.pg ∧
      (finishFaulted s t).shadow = t.shadow ∧ (finishFaulted s t).sport = t.sport ∧
      (finishFaulted s t).events = t.events ∧ (finishFaulted s t).straps = t.straps ∧
      (finishFaulted s t).pending = t.pending := by
  simp [finishFaulted]
@[simp] theorem dom_finishFaulted (s t : State) (d : DomainId) : (finishFaulted s t).dom d = t.dom d := by
  simp [finishFaulted]

@[simp] theorem State.captureNotMade_frame (s : State) (d : DomainId) :
    (s.captureNotMade d).uport = s.uport ∧ (s.captureNotMade d).entries = s.entries ∧
      (s.captureNotMade d).replyQueue = s.replyQueue ∧ (s.captureNotMade d).parkLimit = s.parkLimit ∧
      (s.captureNotMade d).windows = s.windows ∧ (s.captureNotMade d).hits = s.hits ∧
      (s.captureNotMade d).domains = s.domains ∧ (s.captureNotMade d).pg = s.pg ∧
      (s.captureNotMade d).sport = s.sport ∧ (s.captureNotMade d).straps = s.straps ∧
      (s.captureNotMade d).pending = s.pending := by
  unfold State.captureNotMade; repeat' split
  all_goals simp
@[simp] theorem State.dom_captureNotMade (s : State) (d : DomainId) (x' : DomainId) : (s.captureNotMade d).dom x' = s.dom x' := by
  simp [State.dom]

@[simp] theorem State.capture_frame (s : State) (d : DomainId) (c : Command) :
    (s.capture d c).uport = s.uport ∧ (s.capture d c).entries = s.entries ∧
      (s.capture d c).replyQueue = s.replyQueue ∧ (s.capture d c).parkLimit = s.parkLimit ∧
      (s.capture d c).windows = s.windows ∧ (s.capture d c).hits = s.hits ∧
      (s.capture d c).domains = s.domains ∧ (s.capture d c).pg = s.pg ∧ (s.capture d c).sport = s.sport ∧
      (s.capture d c).straps = s.straps ∧ (s.capture d c).pending = s.pending := by
  unfold State.capture; repeat' split
  all_goals simp
@[simp] theorem State.dom_capture (s : State) (d : DomainId) (c : Command) (x' : DomainId) : (s.capture d c).dom x' = s.dom x' := by
  simp [State.dom]

@[simp] theorem State.offerCapture_frame (s : State) (c : Command) (d : Option DomainId) (b : Bool) :
    (s.offerCapture c d b).uport = s.uport ∧ (s.offerCapture c d b).entries = s.entries ∧
      (s.offerCapture c d b).replyQueue = s.replyQueue ∧ (s.offerCapture c d b).parkLimit = s.parkLimit ∧
      (s.offerCapture c d b).windows = s.windows ∧ (s.offerCapture c d b).hits = s.hits ∧
      (s.offerCapture c d b).domains = s.domains ∧ (s.offerCapture c d b).pg = s.pg ∧
      (s.offerCapture c d b).sport = s.sport ∧ (s.offerCapture c d b).straps = s.straps ∧
      (s.offerCapture c d b).pending = s.pending := by
  unfold State.offerCapture; repeat' split
  all_goals simp
@[simp] theorem State.dom_offerCapture (s : State) (c : Command) (d : Option DomainId) (b : Bool) (x' : DomainId) : (s.offerCapture c d b).dom x' = s.dom x' := by
  simp [State.dom]

@[simp] theorem State.countHit_frame (s : State) (i : Fin 32) :
    (s.countHit i).uport = s.uport ∧ (s.countHit i).entries = s.entries ∧
      (s.countHit i).replyQueue = s.replyQueue ∧ (s.countHit i).parkLimit = s.parkLimit ∧
      (s.countHit i).windows = s.windows ∧ (s.countHit i).domains = s.domains ∧ (s.countHit i).pg = s.pg ∧
      (s.countHit i).shadow = s.shadow ∧ (s.countHit i).sport = s.sport ∧ (s.countHit i).straps = s.straps ∧
      (s.countHit i).pending = s.pending := by
  unfold State.countHit; repeat' split
  all_goals simp
@[simp] theorem State.dom_countHit (s : State) (i : Fin 32) (x' : DomainId) : (s.countHit i).dom x' = s.dom x' := by
  simp [State.dom]

@[simp] theorem State.addEntry_frame (s : State) (t : Byte) (c : Command) (n : Option Snapshot) (x : EntryState) :
    (s.addEntry t c n x).uport = s.uport ∧ (s.addEntry t c n x).replyQueue = s.replyQueue ∧
      (s.addEntry t c n x).parkLimit = s.parkLimit ∧ (s.addEntry t c n x).windows = s.windows ∧
      (s.addEntry t c n x).hits = s.hits ∧ (s.addEntry t c n x).domains = s.domains ∧
      (s.addEntry t c n x).pg = s.pg ∧ (s.addEntry t c n x).shadow = s.shadow ∧
      (s.addEntry t c n x).sport = s.sport ∧ (s.addEntry t c n x).events = s.events ∧
      (s.addEntry t c n x).straps = s.straps ∧ (s.addEntry t c n x).pending = s.pending := by
  unfold State.addEntry; repeat' split
  all_goals simp
@[simp] theorem State.dom_addEntry (s : State) (t : Byte) (c : Command) (n : Option Snapshot) (x : EntryState) (x' : DomainId) : (s.addEntry t c n x).dom x' = s.dom x' := by
  simp [State.dom]

@[simp] theorem State.addDone_frame (s : State) (t : Byte) (c : Command) (n : Option Snapshot) (x : Status) :
    (s.addDone t c n x).uport = s.uport ∧ (s.addDone t c n x).parkLimit = s.parkLimit ∧
      (s.addDone t c n x).windows = s.windows ∧ (s.addDone t c n x).hits = s.hits ∧
      (s.addDone t c n x).domains = s.domains ∧ (s.addDone t c n x).pg = s.pg ∧
      (s.addDone t c n x).shadow = s.shadow ∧ (s.addDone t c n x).sport = s.sport ∧
      (s.addDone t c n x).events = s.events ∧ (s.addDone t c n x).straps = s.straps ∧
      (s.addDone t c n x).pending = s.pending := by
  unfold State.addDone; repeat' split
  all_goals simp
@[simp] theorem State.dom_addDone (s : State) (t : Byte) (c : Command) (n : Option Snapshot) (x : Status) (x' : DomainId) : (s.addDone t c n x).dom x' = s.dom x' := by
  simp [State.dom]

@[simp] theorem State.arrive_frame (s : State) (t : Byte) (c : Command) (n : Snapshot) (d : DomainId) :
    (s.arrive t c n d).uport = s.uport ∧ (s.arrive t c n d).parkLimit = s.parkLimit ∧
      (s.arrive t c n d).windows = s.windows ∧ (s.arrive t c n d).hits = s.hits ∧ (s.arrive t c n d).pg = s.pg ∧
      (s.arrive t c n d).shadow = s.shadow ∧ (s.arrive t c n d).sport = s.sport ∧
      (s.arrive t c n d).events = s.events ∧ (s.arrive t c n d).straps = s.straps ∧
      (s.arrive t c n d).pending = s.pending := by
  unfold State.arrive; repeat' split
  all_goals simp

@[simp] theorem State.forward_frame (s : State) (t : Byte) (c : Command) :
    (s.forward t c).uport = s.uport ∧ (s.forward t c).parkLimit = s.parkLimit ∧
      (s.forward t c).windows = s.windows ∧ (s.forward t c).pg = s.pg ∧ (s.forward t c).shadow = s.shadow ∧
      (s.forward t c).sport = s.sport ∧ (s.forward t c).straps = s.straps ∧ (s.forward t c).pending = s.pending := by
  unfold State.forward; repeat' split
  all_goals simp

@[simp] theorem State.refuseFrame_frame (s : State) (t : Byte) (c : RefusalCause) :
    (s.refuseFrame t c).entries = s.entries ∧ (s.refuseFrame t c).replyQueue = s.replyQueue ∧
      (s.refuseFrame t c).parkLimit = s.parkLimit ∧ (s.refuseFrame t c).windows = s.windows ∧
      (s.refuseFrame t c).hits = s.hits ∧ (s.refuseFrame t c).domains = s.domains ∧
      (s.refuseFrame t c).pg = s.pg ∧ (s.refuseFrame t c).shadow = s.shadow ∧
      (s.refuseFrame t c).sport = s.sport ∧ (s.refuseFrame t c).straps = s.straps ∧
      (s.refuseFrame t c).pending = s.pending := by
  unfold State.refuseFrame; repeat' split
  all_goals simp
@[simp] theorem State.dom_refuseFrame (s : State) (t : Byte) (c : RefusalCause) (x' : DomainId) : (s.refuseFrame t c).dom x' = s.dom x' := by
  simp [State.dom]

@[simp] theorem State.admission_frame (s : State) (t : Byte) (c : Command) :
    (s.admission t c).parkLimit = s.parkLimit ∧ (s.admission t c).windows = s.windows ∧ (s.admission t c).pg = s.pg ∧
      (s.admission t c).shadow = s.shadow ∧ (s.admission t c).sport = s.sport ∧ (s.admission t c).straps = s.straps ∧
      (s.admission t c).pending = s.pending := by
  unfold State.admission; repeat' split
  all_goals simp

@[simp] theorem State.discardFrame_frame (s : State) (f : UCounters → UCounters) (x : RxState) :
    (s.discardFrame f x).entries = s.entries ∧ (s.discardFrame f x).replyQueue = s.replyQueue ∧
      (s.discardFrame f x).parkLimit = s.parkLimit ∧ (s.discardFrame f x).windows = s.windows ∧
      (s.discardFrame f x).hits = s.hits ∧ (s.discardFrame f x).domains = s.domains ∧
      (s.discardFrame f x).pg = s.pg ∧ (s.discardFrame f x).shadow = s.shadow ∧
      (s.discardFrame f x).sport = s.sport ∧ (s.discardFrame f x).straps = s.straps ∧
      (s.discardFrame f x).pending = s.pending := by
  unfold State.discardFrame; repeat' split
  all_goals simp
@[simp] theorem State.dom_discardFrame (s : State) (f : UCounters → UCounters) (x : RxState) (x' : DomainId) : (s.discardFrame f x).dom x' = s.dom x' := by
  simp [State.dom]

@[simp] theorem State.huntCharacter_frame (s : State) (b : Byte) (m : CharMark) :
    (s.huntCharacter b m).entries = s.entries ∧ (s.huntCharacter b m).replyQueue = s.replyQueue ∧
      (s.huntCharacter b m).parkLimit = s.parkLimit ∧ (s.huntCharacter b m).windows = s.windows ∧
      (s.huntCharacter b m).hits = s.hits ∧ (s.huntCharacter b m).domains = s.domains ∧
      (s.huntCharacter b m).pg = s.pg ∧ (s.huntCharacter b m).shadow = s.shadow ∧
      (s.huntCharacter b m).sport = s.sport ∧ (s.huntCharacter b m).events = s.events ∧
      (s.huntCharacter b m).straps = s.straps ∧ (s.huntCharacter b m).pending = s.pending := by
  unfold State.huntCharacter; repeat' split
  all_goals simp
@[simp] theorem State.dom_huntCharacter (s : State) (b : Byte) (m : CharMark) (x' : DomainId) : (s.huntCharacter b m).dom x' = s.dom x' := by
  simp [State.dom]

@[simp] theorem State.afterHeader_frame (s : State) (a : Assembly) :
    (s.afterHeader a).entries = s.entries ∧ (s.afterHeader a).replyQueue = s.replyQueue ∧
      (s.afterHeader a).parkLimit = s.parkLimit ∧ (s.afterHeader a).windows = s.windows ∧
      (s.afterHeader a).hits = s.hits ∧ (s.afterHeader a).domains = s.domains ∧ (s.afterHeader a).pg = s.pg ∧
      (s.afterHeader a).shadow = s.shadow ∧ (s.afterHeader a).sport = s.sport ∧
      (s.afterHeader a).straps = s.straps ∧ (s.afterHeader a).pending = s.pending := by
  unfold State.afterHeader; repeat' split
  all_goals simp
@[simp] theorem State.dom_afterHeader (s : State) (a : Assembly) (x' : DomainId) : (s.afterHeader a).dom x' = s.dom x' := by
  simp [State.dom]

@[simp] theorem State.afterPayload_frame (s : State) (a : Assembly) :
    (s.afterPayload a).entries = s.entries ∧ (s.afterPayload a).replyQueue = s.replyQueue ∧
      (s.afterPayload a).parkLimit = s.parkLimit ∧ (s.afterPayload a).windows = s.windows ∧
      (s.afterPayload a).hits = s.hits ∧ (s.afterPayload a).domains = s.domains ∧ (s.afterPayload a).pg = s.pg ∧
      (s.afterPayload a).shadow = s.shadow ∧ (s.afterPayload a).sport = s.sport ∧
      (s.afterPayload a).events = s.events ∧ (s.afterPayload a).straps = s.straps ∧
      (s.afterPayload a).pending = s.pending := by
  unfold State.afterPayload; repeat' split
  all_goals simp
@[simp] theorem State.dom_afterPayload (s : State) (a : Assembly) (x' : DomainId) : (s.afterPayload a).dom x' = s.dom x' := by
  simp [State.dom]

@[simp] theorem State.headerCharacter_frame (s : State) (b : Byte) :
    (s.headerCharacter b).entries = s.entries ∧ (s.headerCharacter b).replyQueue = s.replyQueue ∧
      (s.headerCharacter b).parkLimit = s.parkLimit ∧ (s.headerCharacter b).windows = s.windows ∧
      (s.headerCharacter b).hits = s.hits ∧ (s.headerCharacter b).domains = s.domains ∧
      (s.headerCharacter b).pg = s.pg ∧ (s.headerCharacter b).shadow = s.shadow ∧
      (s.headerCharacter b).sport = s.sport ∧ (s.headerCharacter b).straps = s.straps ∧
      (s.headerCharacter b).pending = s.pending := by
  unfold State.headerCharacter; repeat' split
  all_goals simp
@[simp] theorem State.dom_headerCharacter (s : State) (b : Byte) (x' : DomainId) : (s.headerCharacter b).dom x' = s.dom x' := by
  simp [State.dom]

@[simp] theorem State.payloadCharacter_frame (s : State) (b : Byte) :
    (s.payloadCharacter b).entries = s.entries ∧ (s.payloadCharacter b).replyQueue = s.replyQueue ∧
      (s.payloadCharacter b).parkLimit = s.parkLimit ∧ (s.payloadCharacter b).windows = s.windows ∧
      (s.payloadCharacter b).hits = s.hits ∧ (s.payloadCharacter b).domains = s.domains ∧
      (s.payloadCharacter b).pg = s.pg ∧ (s.payloadCharacter b).shadow = s.shadow ∧
      (s.payloadCharacter b).sport = s.sport ∧ (s.payloadCharacter b).events = s.events ∧
      (s.payloadCharacter b).straps = s.straps ∧ (s.payloadCharacter b).pending = s.pending := by
  unfold State.payloadCharacter; repeat' split
  all_goals simp
@[simp] theorem State.dom_payloadCharacter (s : State) (b : Byte) (x' : DomainId) : (s.payloadCharacter b).dom x' = s.dom x' := by
  simp [State.dom]

@[simp] theorem State.checkCharacter_frame (s : State) (b : Byte) :
    (s.checkCharacter b).parkLimit = s.parkLimit ∧ (s.checkCharacter b).windows = s.windows ∧
      (s.checkCharacter b).pg = s.pg ∧ (s.checkCharacter b).shadow = s.shadow ∧
      (s.checkCharacter b).sport = s.sport ∧ (s.checkCharacter b).straps = s.straps ∧
      (s.checkCharacter b).pending = s.pending := by
  unfold State.checkCharacter; repeat' split
  all_goals simp

@[simp] theorem State.frameCharacter_frame (s : State) (b : Byte) :
    (s.frameCharacter b).parkLimit = s.parkLimit ∧ (s.frameCharacter b).windows = s.windows ∧
      (s.frameCharacter b).pg = s.pg ∧ (s.frameCharacter b).shadow = s.shadow ∧
      (s.frameCharacter b).sport = s.sport ∧ (s.frameCharacter b).straps = s.straps ∧
      (s.frameCharacter b).pending = s.pending := by
  unfold State.frameCharacter; repeat' split
  all_goals simp

@[simp] theorem State.receive_frame (s : State) (b : Byte) (m : CharMark) :
    (s.receive b m).parkLimit = s.parkLimit ∧ (s.receive b m).windows = s.windows ∧ (s.receive b m).pg = s.pg ∧
      (s.receive b m).shadow = s.shadow ∧ (s.receive b m).sport = s.sport ∧ (s.receive b m).straps = s.straps ∧
      (s.receive b m).pending = s.pending := by
  unfold State.receive; repeat' split
  all_goals simp

@[simp] theorem State.send_frame (s : State) (x : TxSource) (f : List Byte) :
    (s.send x f).entries = s.entries ∧ (s.send x f).replyQueue = s.replyQueue ∧
      (s.send x f).parkLimit = s.parkLimit ∧ (s.send x f).windows = s.windows ∧ (s.send x f).hits = s.hits ∧
      (s.send x f).domains = s.domains ∧ (s.send x f).pg = s.pg ∧ (s.send x f).shadow = s.shadow ∧
      (s.send x f).sport = s.sport ∧ (s.send x f).events = s.events ∧ (s.send x f).straps = s.straps ∧
      (s.send x f).pending = s.pending := by
  unfold State.send; repeat' split
  all_goals simp
@[simp] theorem State.dom_send (s : State) (x : TxSource) (f : List Byte) (x' : DomainId) : (s.send x f).dom x' = s.dom x' := by
  simp [State.dom]

@[simp] theorem State.transmitterChoice_frame (s : State) :
    s.transmitterChoice.entries = s.entries ∧ s.transmitterChoice.parkLimit = s.parkLimit ∧
      s.transmitterChoice.windows = s.windows ∧ s.transmitterChoice.hits = s.hits ∧
      s.transmitterChoice.domains = s.domains ∧ s.transmitterChoice.pg = s.pg ∧
      s.transmitterChoice.shadow = s.shadow ∧ s.transmitterChoice.sport = s.sport ∧
      s.transmitterChoice.events = s.events ∧ s.transmitterChoice.straps = s.straps ∧
      s.transmitterChoice.pending = s.pending := by
  unfold State.transmitterChoice; repeat' split
  all_goals simp
@[simp] theorem State.dom_transmitterChoice (s : State) (x' : DomainId) : s.transmitterChoice.dom x' = s.dom x' := by
  simp [State.dom]

@[simp] theorem State.freeEntry_frame (s : State) (t : Byte) :
    (s.freeEntry t).uport = s.uport ∧ (s.freeEntry t).replyQueue = s.replyQueue ∧
      (s.freeEntry t).parkLimit = s.parkLimit ∧ (s.freeEntry t).windows = s.windows ∧
      (s.freeEntry t).hits = s.hits ∧ (s.freeEntry t).domains = s.domains ∧ (s.freeEntry t).pg = s.pg ∧
      (s.freeEntry t).shadow = s.shadow ∧ (s.freeEntry t).sport = s.sport ∧ (s.freeEntry t).events = s.events ∧
      (s.freeEntry t).straps = s.straps ∧ (s.freeEntry t).pending = s.pending := by
  unfold State.freeEntry; repeat' split
  all_goals simp
@[simp] theorem State.dom_freeEntry (s : State) (t : Byte) (x' : DomainId) : (s.freeEntry t).dom x' = s.dom x' := by
  simp [State.dom]

@[simp] theorem State.replyGone_frame (s : State) (t : Byte) :
    (s.replyGone t).parkLimit = s.parkLimit ∧ (s.replyGone t).windows = s.windows ∧
      (s.replyGone t).hits = s.hits ∧ (s.replyGone t).domains = s.domains ∧ (s.replyGone t).pg = s.pg ∧
      (s.replyGone t).shadow = s.shadow ∧ (s.replyGone t).sport = s.sport ∧ (s.replyGone t).events = s.events ∧
      (s.replyGone t).straps = s.straps ∧ (s.replyGone t).pending = s.pending := by
  unfold State.replyGone; repeat' split
  all_goals simp
@[simp] theorem State.dom_replyGone (s : State) (t : Byte) (x' : DomainId) : (s.replyGone t).dom x' = s.dom x' := by
  simp [State.dom]

@[simp] theorem State.beginAttempt_frame (s : State) (x : Exchange) (w : WorkClass) :
    (s.beginAttempt x w).uport = s.uport ∧ (s.beginAttempt x w).entries = s.entries ∧
      (s.beginAttempt x w).replyQueue = s.replyQueue ∧ (s.beginAttempt x w).parkLimit = s.parkLimit ∧
      (s.beginAttempt x w).windows = s.windows ∧ (s.beginAttempt x w).hits = s.hits ∧
      (s.beginAttempt x w).domains = s.domains ∧ (s.beginAttempt x w).pg = s.pg ∧
      (s.beginAttempt x w).shadow = s.shadow ∧ (s.beginAttempt x w).events = s.events ∧
      (s.beginAttempt x w).straps = s.straps ∧ (s.beginAttempt x w).pending = s.pending := by
  unfold State.beginAttempt; repeat' split
  all_goals simp
@[simp] theorem State.dom_beginAttempt (s : State) (x : Exchange) (w : WorkClass) (x' : DomainId) : (s.beginAttempt x w).dom x' = s.dom x' := by
  simp [State.dom]

@[simp] theorem State.grantEntry_frame (s : State) (e : Entry) :
    (s.grantEntry e).uport = s.uport ∧ (s.grantEntry e).replyQueue = s.replyQueue ∧
      (s.grantEntry e).parkLimit = s.parkLimit ∧ (s.grantEntry e).windows = s.windows ∧
      (s.grantEntry e).hits = s.hits ∧ (s.grantEntry e).domains = s.domains ∧ (s.grantEntry e).pg = s.pg ∧
      (s.grantEntry e).shadow = s.shadow ∧ (s.grantEntry e).events = s.events ∧
      (s.grantEntry e).straps = s.straps ∧ (s.grantEntry e).pending = s.pending := by
  unfold State.grantEntry; repeat' split
  all_goals simp
@[simp] theorem State.dom_grantEntry (s : State) (e : Entry) (x' : DomainId) : (s.grantEntry e).dom x' = s.dom x' := by
  simp [State.dom]

@[simp] theorem State.grantMaintenance_frame (s : State) (d : DomainId) (m : Maintenance) :
    (s.grantMaintenance d m).uport = s.uport ∧ (s.grantMaintenance d m).entries = s.entries ∧
      (s.grantMaintenance d m).replyQueue = s.replyQueue ∧ (s.grantMaintenance d m).parkLimit = s.parkLimit ∧
      (s.grantMaintenance d m).windows = s.windows ∧ (s.grantMaintenance d m).hits = s.hits ∧
      (s.grantMaintenance d m).pg = s.pg ∧ (s.grantMaintenance d m).shadow = s.shadow ∧
      (s.grantMaintenance d m).events = s.events ∧ (s.grantMaintenance d m).straps = s.straps ∧
      (s.grantMaintenance d m).pending = s.pending := by
  unfold State.grantMaintenance; repeat' split
  all_goals simp

@[simp] theorem State.arbitrate_frame (s : State) :
    s.arbitrate.uport = s.uport ∧ s.arbitrate.replyQueue = s.replyQueue ∧ s.arbitrate.parkLimit = s.parkLimit ∧
      s.arbitrate.windows = s.windows ∧ s.arbitrate.hits = s.hits ∧ s.arbitrate.pg = s.pg ∧
      s.arbitrate.shadow = s.shadow ∧ s.arbitrate.events = s.events ∧ s.arbitrate.straps = s.straps ∧
      s.arbitrate.pending = s.pending := by
  unfold State.arbitrate; repeat' split
  all_goals simp

@[simp] theorem State.offerOutcome_frame (s : State) (x : Exchange) (o : AttemptOutcome) :
    (s.offerOutcome x o).uport = s.uport ∧ (s.offerOutcome x o).entries = s.entries ∧
      (s.offerOutcome x o).replyQueue = s.replyQueue ∧ (s.offerOutcome x o).parkLimit = s.parkLimit ∧
      (s.offerOutcome x o).windows = s.windows ∧ (s.offerOutcome x o).hits = s.hits ∧
      (s.offerOutcome x o).domains = s.domains ∧ (s.offerOutcome x o).pg = s.pg ∧
      (s.offerOutcome x o).sport = s.sport ∧ (s.offerOutcome x o).straps = s.straps ∧
      (s.offerOutcome x o).pending = s.pending := by
  unfold State.offerOutcome; repeat' split
  all_goals simp
@[simp] theorem State.dom_offerOutcome (s : State) (x : Exchange) (o : AttemptOutcome) (x' : DomainId) : (s.offerOutcome x o).dom x' = s.dom x' := by
  simp [State.dom]

@[simp] theorem State.drainDomain_frame (s : State) (d : Option DomainId) :
    (s.drainDomain d).uport = s.uport ∧ (s.drainDomain d).entries = s.entries ∧
      (s.drainDomain d).replyQueue = s.replyQueue ∧ (s.drainDomain d).parkLimit = s.parkLimit ∧
      (s.drainDomain d).windows = s.windows ∧ (s.drainDomain d).hits = s.hits ∧ (s.drainDomain d).pg = s.pg ∧
      (s.drainDomain d).shadow = s.shadow ∧ (s.drainDomain d).sport = s.sport ∧
      (s.drainDomain d).straps = s.straps ∧ (s.drainDomain d).pending = s.pending := by
  unfold State.drainDomain; repeat' split
  all_goals simp

@[simp] theorem State.requeue_frame (s : State) (t : Byte) :
    (s.requeue t).uport = s.uport ∧ (s.requeue t).replyQueue = s.replyQueue ∧
      (s.requeue t).parkLimit = s.parkLimit ∧ (s.requeue t).windows = s.windows ∧ (s.requeue t).hits = s.hits ∧
      (s.requeue t).domains = s.domains ∧ (s.requeue t).pg = s.pg ∧ (s.requeue t).shadow = s.shadow ∧
      (s.requeue t).sport = s.sport ∧ (s.requeue t).events = s.events ∧ (s.requeue t).straps = s.straps ∧
      (s.requeue t).pending = s.pending := by
  unfold State.requeue; repeat' split
  all_goals simp
@[simp] theorem State.dom_requeue (s : State) (t : Byte) (x' : DomainId) : (s.requeue t).dom x' = s.dom x' := by
  simp [State.dom]

@[simp] theorem State.segmentError_frame (s : State) (o : AttemptOutcome) :
    (s.segmentError o).uport = s.uport ∧ (s.segmentError o).entries = s.entries ∧
      (s.segmentError o).replyQueue = s.replyQueue ∧ (s.segmentError o).parkLimit = s.parkLimit ∧
      (s.segmentError o).windows = s.windows ∧ (s.segmentError o).hits = s.hits ∧
      (s.segmentError o).domains = s.domains ∧ (s.segmentError o).pg = s.pg ∧
      (s.segmentError o).shadow = s.shadow ∧ (s.segmentError o).sport = s.sport ∧
      (s.segmentError o).straps = s.straps ∧ (s.segmentError o).pending = s.pending := by
  unfold State.segmentError; repeat' split
  all_goals simp
@[simp] theorem State.dom_segmentError (s : State) (o : AttemptOutcome) (x' : DomainId) : (s.segmentError o).dom x' = s.dom x' := by
  simp [State.dom]

@[simp] theorem State.entryOutcome_frame (s : State) (e : Entry) (b : Bool) (o : AttemptOutcome) :
    (s.entryOutcome e b o).uport = s.uport ∧ (s.entryOutcome e b o).parkLimit = s.parkLimit ∧
      (s.entryOutcome e b o).windows = s.windows ∧ (s.entryOutcome e b o).hits = s.hits ∧
      (s.entryOutcome e b o).domains = s.domains ∧ (s.entryOutcome e b o).pg = s.pg ∧
      (s.entryOutcome e b o).shadow = s.shadow ∧ (s.entryOutcome e b o).sport = s.sport ∧
      (s.entryOutcome e b o).straps = s.straps ∧ (s.entryOutcome e b o).pending = s.pending := by
  unfold State.entryOutcome; repeat' split
  all_goals simp
@[simp] theorem State.dom_entryOutcome (s : State) (e : Entry) (b : Bool) (o : AttemptOutcome) (x' : DomainId) : (s.entryOutcome e b o).dom x' = s.dom x' := by
  simp [State.dom]

@[simp] theorem State.deliverEntry_frame (s : State) (x : Exchange) (t : Byte) (o : AttemptOutcome) :
    (s.deliverEntry x t o).uport = s.uport ∧ (s.deliverEntry x t o).parkLimit = s.parkLimit ∧
      (s.deliverEntry x t o).windows = s.windows ∧ (s.deliverEntry x t o).hits = s.hits ∧
      (s.deliverEntry x t o).pg = s.pg ∧ (s.deliverEntry x t o).sport = s.sport ∧
      (s.deliverEntry x t o).straps = s.straps ∧ (s.deliverEntry x t o).pending = s.pending := by
  unfold State.deliverEntry; repeat' split
  all_goals simp

@[simp] theorem State.deliverOrphan_frame (s : State) (x : Exchange) (o : AttemptOutcome) :
    (s.deliverOrphan x o).uport = s.uport ∧ (s.deliverOrphan x o).entries = s.entries ∧
      (s.deliverOrphan x o).replyQueue = s.replyQueue ∧ (s.deliverOrphan x o).parkLimit = s.parkLimit ∧
      (s.deliverOrphan x o).windows = s.windows ∧ (s.deliverOrphan x o).hits = s.hits ∧
      (s.deliverOrphan x o).pg = s.pg ∧ (s.deliverOrphan x o).sport = s.sport ∧
      (s.deliverOrphan x o).straps = s.straps ∧ (s.deliverOrphan x o).pending = s.pending := by
  unfold State.deliverOrphan; repeat' split
  all_goals simp

@[simp] theorem State.setNote_frame (s : State) (d : DomainId) (w : MaintenanceWork) (n : Nat) :
    (s.setNote d w n).uport = s.uport ∧ (s.setNote d w n).entries = s.entries ∧
      (s.setNote d w n).replyQueue = s.replyQueue ∧ (s.setNote d w n).parkLimit = s.parkLimit ∧
      (s.setNote d w n).windows = s.windows ∧ (s.setNote d w n).hits = s.hits ∧
      (s.setNote d w n).domains = s.domains ∧ (s.setNote d w n).pg = s.pg ∧
      (s.setNote d w n).shadow = s.shadow ∧ (s.setNote d w n).events = s.events ∧
      (s.setNote d w n).straps = s.straps ∧ (s.setNote d w n).pending = s.pending := by
  unfold State.setNote; repeat' split
  all_goals simp
@[simp] theorem State.dom_setNote (s : State) (d : DomainId) (w : MaintenanceWork) (n : Nat) (x' : DomainId) : (s.setNote d w n).dom x' = s.dom x' := by
  simp [State.dom]

@[simp] theorem State.deliverCheck_frame (s : State) (x : Exchange) (d : DomainId) (o : AttemptOutcome) :
    (s.deliverCheck x d o).uport = s.uport ∧ (s.deliverCheck x d o).parkLimit = s.parkLimit ∧
      (s.deliverCheck x d o).windows = s.windows ∧ (s.deliverCheck x d o).hits = s.hits ∧
      (s.deliverCheck x d o).pg = s.pg ∧ (s.deliverCheck x d o).shadow = s.shadow ∧
      (s.deliverCheck x d o).straps = s.straps ∧ (s.deliverCheck x d o).pending = s.pending := by
  unfold State.deliverCheck; repeat' split
  all_goals simp

@[simp] theorem State.advanceReplay_frame (s : State) (d : DomainId) (k : Key) :
    (s.advanceReplay d k).uport = s.uport ∧ (s.advanceReplay d k).replyQueue = s.replyQueue ∧
      (s.advanceReplay d k).parkLimit = s.parkLimit ∧ (s.advanceReplay d k).windows = s.windows ∧
      (s.advanceReplay d k).hits = s.hits ∧ (s.advanceReplay d k).pg = s.pg ∧
      (s.advanceReplay d k).shadow = s.shadow ∧ (s.advanceReplay d k).sport = s.sport ∧
      (s.advanceReplay d k).straps = s.straps ∧ (s.advanceReplay d k).pending = s.pending := by
  unfold State.advanceReplay; repeat' split
  all_goals simp

@[simp] theorem State.replayOutcome_frame (s : State) (d : DomainId) (k : Key) (o : AttemptOutcome) :
    (s.replayOutcome d k o).uport = s.uport ∧ (s.replayOutcome d k o).parkLimit = s.parkLimit ∧
      (s.replayOutcome d k o).windows = s.windows ∧ (s.replayOutcome d k o).hits = s.hits ∧
      (s.replayOutcome d k o).pg = s.pg ∧ (s.replayOutcome d k o).shadow = s.shadow ∧
      (s.replayOutcome d k o).straps = s.straps ∧ (s.replayOutcome d k o).pending = s.pending := by
  unfold State.replayOutcome; repeat' split
  all_goals simp

@[simp] theorem State.deliverReplay_frame (s : State) (x : Exchange) (d : DomainId) (o : AttemptOutcome) :
    (s.deliverReplay x d o).uport = s.uport ∧ (s.deliverReplay x d o).parkLimit = s.parkLimit ∧
      (s.deliverReplay x d o).windows = s.windows ∧ (s.deliverReplay x d o).hits = s.hits ∧
      (s.deliverReplay x d o).pg = s.pg ∧ (s.deliverReplay x d o).shadow = s.shadow ∧
      (s.deliverReplay x d o).straps = s.straps ∧ (s.deliverReplay x d o).pending = s.pending := by
  unfold State.deliverReplay; repeat' split
  all_goals simp

@[simp] theorem State.deliver_frame (s : State) (x : Exchange) (o : AttemptOutcome) :
    (s.deliver x o).uport = s.uport ∧ (s.deliver x o).parkLimit = s.parkLimit ∧
      (s.deliver x o).windows = s.windows ∧ (s.deliver x o).hits = s.hits ∧ (s.deliver x o).pg = s.pg ∧
      (s.deliver x o).straps = s.straps ∧ (s.deliver x o).pending = s.pending := by
  unfold State.deliver; repeat' split
  all_goals simp

@[simp] theorem State.attemptEnds_frame (s : State) (x : Exchange) (o : AttemptOutcome) :
    (s.attemptEnds x o).uport = s.uport ∧ (s.attemptEnds x o).parkLimit = s.parkLimit ∧
      (s.attemptEnds x o).windows = s.windows ∧ (s.attemptEnds x o).hits = s.hits ∧
      (s.attemptEnds x o).pg = s.pg ∧ (s.attemptEnds x o).straps = s.straps ∧
      (s.attemptEnds x o).pending = s.pending := by
  unfold State.attemptEnds; repeat' split
  all_goals simp

@[simp] theorem State.enterPhase_frame (s : State) (p : Phase) (x : Exchange) (l : LineState) :
    (s.enterPhase p x l).uport = s.uport ∧ (s.enterPhase p x l).entries = s.entries ∧
      (s.enterPhase p x l).replyQueue = s.replyQueue ∧ (s.enterPhase p x l).parkLimit = s.parkLimit ∧
      (s.enterPhase p x l).windows = s.windows ∧ (s.enterPhase p x l).hits = s.hits ∧
      (s.enterPhase p x l).domains = s.domains ∧ (s.enterPhase p x l).pg = s.pg ∧
      (s.enterPhase p x l).shadow = s.shadow ∧ (s.enterPhase p x l).events = s.events ∧
      (s.enterPhase p x l).straps = s.straps ∧ (s.enterPhase p x l).pending = s.pending := by
  unfold State.enterPhase; repeat' split
  all_goals simp
@[simp] theorem State.dom_enterPhase (s : State) (p : Phase) (x : Exchange) (l : LineState) (x' : DomainId) : (s.enterPhase p x l).dom x' = s.dom x' := by
  simp [State.dom]

@[simp] theorem State.afterAnswer_frame (s : State) (x : Exchange) :
    (s.afterAnswer x).uport = s.uport ∧ (s.afterAnswer x).parkLimit = s.parkLimit ∧
      (s.afterAnswer x).windows = s.windows ∧ (s.afterAnswer x).hits = s.hits ∧ (s.afterAnswer x).pg = s.pg ∧
      (s.afterAnswer x).straps = s.straps ∧ (s.afterAnswer x).pending = s.pending := by
  unfold State.afterAnswer; repeat' split
  all_goals simp

@[simp] theorem State.answerCharacter_frame (s : State) (x : Exchange) (b : Byte) :
    (s.answerCharacter x b).uport = s.uport ∧ (s.answerCharacter x b).parkLimit = s.parkLimit ∧
      (s.answerCharacter x b).windows = s.windows ∧ (s.answerCharacter x b).hits = s.hits ∧
      (s.answerCharacter x b).pg = s.pg ∧ (s.answerCharacter x b).straps = s.straps ∧
      (s.answerCharacter x b).pending = s.pending := by
  unfold State.answerCharacter; repeat' split
  all_goals simp

@[simp] theorem State.answerMarked_frame (s : State) (x : Exchange) (b : Byte) (m : CharMark) :
    (s.answerMarked x b m).uport = s.uport ∧ (s.answerMarked x b m).parkLimit = s.parkLimit ∧
      (s.answerMarked x b m).windows = s.windows ∧ (s.answerMarked x b m).hits = s.hits ∧
      (s.answerMarked x b m).pg = s.pg ∧ (s.answerMarked x b m).straps = s.straps ∧
      (s.answerMarked x b m).pending = s.pending := by
  unfold State.answerMarked; repeat' split
  all_goals simp

@[simp] theorem State.setInput_frame (s : State) (i : Fin 4) (x : ExtInput) :
    (s.setInput i x).uport = s.uport ∧ (s.setInput i x).entries = s.entries ∧
      (s.setInput i x).replyQueue = s.replyQueue ∧ (s.setInput i x).parkLimit = s.parkLimit ∧
      (s.setInput i x).windows = s.windows ∧ (s.setInput i x).hits = s.hits ∧
      (s.setInput i x).domains = s.domains ∧ (s.setInput i x).pg = s.pg ∧ (s.setInput i x).shadow = s.shadow ∧
      (s.setInput i x).sport = s.sport ∧ (s.setInput i x).straps = s.straps ∧
      (s.setInput i x).pending = s.pending := by
  unfold State.setInput; repeat' split
  all_goals simp
@[simp] theorem State.dom_setInput (s : State) (i : Fin 4) (x : ExtInput) (x' : DomainId) : (s.setInput i x).dom x' = s.dom x' := by
  simp [State.dom]

@[simp] theorem State.edgeActs_frame (s : State) (c : ExtConfig) (d : DomainId) :
    (s.edgeActs c d).uport = s.uport ∧ (s.edgeActs c d).entries = s.entries ∧
      (s.edgeActs c d).replyQueue = s.replyQueue ∧ (s.edgeActs c d).parkLimit = s.parkLimit ∧
      (s.edgeActs c d).windows = s.windows ∧ (s.edgeActs c d).hits = s.hits ∧ (s.edgeActs c d).pg = s.pg ∧
      (s.edgeActs c d).shadow = s.shadow ∧ (s.edgeActs c d).sport = s.sport ∧
      (s.edgeActs c d).events = s.events ∧ (s.edgeActs c d).straps = s.straps ∧
      (s.edgeActs c d).pending = s.pending := by
  unfold State.edgeActs; repeat' split
  all_goals simp

end Sys2Proof.Machine
end

