-- ==== Sys2Proof/Laws/Events.lean ====
section
/-! SUPPORT. What the end of an event does: notice-pending, raised classes, and the U-port left as it was. -/
namespace Sys2Proof.Machine

/-! ## The lines the part drives -/

@[simp] theorem outputsAt_low (s : State) : s.outputsAt true = Outputs.inReset := rfl

@[simp] theorem outputsAt_high (s : State) : s.outputsAt false = s.outputs := rfl

@[simp] theorem outputs_alert (s : State) : s.outputs.alert = s.alert := rfl

@[simp] theorem outputs_power (s : State) (d : DomainId) : s.outputs.power.get d = s.powerLine d := by
  simp [State.outputs]

/-! ## The end of an event -/

/-- An event that leaves the event unit alone ends in its effect. -/
theorem announce_same (s t : State) (h : t.events = s.events) : announce s t = t := by
  unfold announce; simp [h]

theorem finishEvent_same (s t : State) (h : t.events = s.events) : finishEvent s t = .next t := by
  rw [finishEvent_eq, announce_same s t h]

/-- A command that changes nothing answers the same state. -/
theorem finishEvent_self (s : State) : finishEvent s s = .next s := finishEvent_same s s rfl

theorem noticeAfter_announce (s t : State) : noticeAfter s (announce s t) = noticeAfter s t := by
  simp [noticeAfter]

/-- An effect that leaves the U-port alone changes at most notice-pending (R152). -/
theorem uportKept_announce (s t : State) (h : t.uport = s.uport) : UportKept s (announce s t) := by
  simp [UportKept, announce_uport, noticeAfter, h]

theorem uportKept_same (s t : State) (h : t.uport = s.uport) (he : t.events = s.events) : UportKept s t := by
  have hn : noticeAfter s t = s.uport.noticePending := by
    simp only [noticeAfter, he]
    by_cases hl : s.events.live = 0 <;> simp [hl]
  simp [UportKept, hn, h]

theorem raisedOnly_nil (s t : State) (h : t.events = s.events) : RaisedOnly s t [] := by
  simp [RaisedOnly, h]

theorem raisedOnly_announce (s t : State) (cs : List EventClass) :
    RaisedOnly s (announce s t) cs ↔ RaisedOnly s t cs := by
  simp [RaisedOnly]

/-- A set with one class more holds that class and those it held. -/
theorem has_or_bit (e : EventSet) (c k : EventClass) :
    EventSet.has (e ||| c.bit) k = (EventSet.has e k || k == c) := by
  cases c <;> cases k <;> simp [EventSet.has, EventClass.bit, EventClass.number]

theorem raise_has (s : State) (c k : EventClass) :
    (s.raise c).events.status.has k = (s.events.status.has k || k == c) := has_or_bit _ _ _

/-- An event set is what it holds, class by class. -/
theorem eventSet_ext (a b : EventSet) (h : ∀ c : EventClass, a.has c = b.has c) : a = b := by
  apply BitVec.eq_of_getLsbD_eq
  intro i hi
  have h0 := h .powerUp; have h1 := h .linkError; have h2 := h .overrun; have h3 := h .windowHit
  have h4 := h .domainWarning; have h5 := h .domainDown; have h6 := h .domainUp; have h7 := h .domainFault
  have h8 := h .wakeRetry; have h9 := h .restoreSkip; have h10 := h .shadowIncomplete; have h11 := h .parkExpired
  have h12 := h .segmentError; have h13 := h .extInput; have h14 := h .mgmtError
  simp only [EventSet.has, EventClass.number] at h0 h1 h2 h3 h4 h5 h6 h7 h8 h9 h10 h11 h12 h13 h14
  match i, hi with
  | 0, _ => exact h0
  | 1, _ => exact h1
  | 2, _ => exact h2
  | 3, _ => exact h3
  | 4, _ => exact h4
  | 5, _ => exact h5
  | 6, _ => exact h6
  | 7, _ => exact h7
  | 8, _ => exact h8
  | 9, _ => exact h9
  | 10, _ => exact h10
  | 11, _ => exact h11
  | 12, _ => exact h12
  | 13, _ => exact h13
  | 14, _ => exact h14

/-- Some class is both set and enabled exactly where ALERT is asserted (R151). -/
theorem live_ne_zero (u : EventUnit) :
    u.live ≠ 0 ↔ ∃ c : EventClass, u.status.has c = true ∧ u.enable.has c = true := by
  constructor
  · intro h
    refine Classical.byContradiction fun hn => h ?_
    apply eventSet_ext
    intro c
    have := fun hs he => hn ⟨c, hs, he⟩
    simp only [EventSet.has, EventUnit.live, BitVec.getLsbD_and] at this ⊢
    cases h1 : u.status.getLsbD c.number <;> cases h2 : u.enable.getLsbD c.number <;> simp_all
  · rintro ⟨c, h1, h2⟩ h0
    have : (u.live).getLsbD c.number = true := by
      simp only [EventUnit.live, BitVec.getLsbD_and]
      simp only [EventSet.has] at h1 h2
      simp [h1, h2]
    rw [h0] at this
    simp at this

/-- Nothing outside the named blocks changes: checked block by block. -/
theorem frame_refl (l : List Block) (s : State) : Frame l s s := by
  intro b _; cases b <;> rfl

theorem frame_announce (l : List Block) (s t : State) (hu : Block.uport ∈ l) (h : Frame l s t) :
    Frame l s (announce s t) := by
  intro b hb
  have := h b hb
  cases b <;> simp_all [State.agrees]

/-- A frame discarded (section 2.2): its cause counted, LINK_ERROR set. -/
theorem frameDiscarded_of_discardFrame (s r : State) (line : LineState) (count : UCounters → UCounters) (next : RxState)
    (hr : r = s.withUport { s.uport with line := line }) :
    FrameDiscarded s (announce s (r.discardFrame count next)) line (count s.uport.counters) next := by
  subst hr
  refine ⟨?_, ?_, ?_⟩
  · intro b hb; cases b <;> simp_all [State.agrees]
  · simp [RaisedOnly, State.discardFrame, State.raise]
  · rw [announce_uport]
    simp [State.discardFrame, State.raise, UPort.toState, noticeAfter]

end Sys2Proof.Machine
end

