-- ==== Sys2Proof/Laws/Domains.lean ====
section
/-! SUPPORT. What each shared operation over a domain does, once and for all. -/
namespace Sys2Proof.Machine

theorem vector_set_get {n : Nat} {α : Type} (v : Vector α n) (i : Fin n) : v.set i (v.get i) = v := by
  apply Vector.ext
  intro j hj
  by_cases h : i.val = j
  · subst h; simp [get_eq_getElem]
  · simp [Vector.getElem_set_ne, h]

/-- Replacing a domain by itself changes nothing. -/
theorem setDom_dom (s : State) (d : DomainId) : s.setDom d (s.dom d) = s := by
  simp [State.setDom, State.dom, State.withDomains, vector_set_get]

theorem setDom_setDom (s : State) (d : DomainId) (x y : Domain) : (s.setDom d x).setDom d y = s.setDom d y := by
  simp [State.setDom, State.withDomains]

theorem enterSettling_eq (s : State) (d : DomainId) :
    s.enterSettling d = s.setDom d { s.dom d with state := .settling (s.dom d).config.settleTime.toNat } := rfl

/-- A wake started from OFF (R86). -/
theorem wakeStart_eq (s : State) (d : DomainId) : s.wakeStart d = s.setDom d (s.dom d).woken := by
  simp [State.wakeStart, enterSettling_eq, setDom_setDom, Domain.woken]

theorem setPendingWake_eq (s : State) (d : DomainId) : s.setPendingWake d = s.setDom d (s.dom d).willWake := rfl

theorem idleLoad_eq (c : DomainConfig) : c.idleLoad = loadedIdle c := by
  cases h : c.mode <;> simp [DomainConfig.idleLoad, loadedIdle, h]

/-- Activity (R81). -/
theorem activity_eq (s : State) (d : DomainId) : s.activity d = s.setDom d (s.dom d).active := by
  cases h : (s.dom d).state <;>
    simp [State.activity, Domain.active, DomState.takesActivity, h, State.setDomState, idleLoad_eq, setDom_dom]

/-- Entering COOLDOWN, passing through it where the minimum off time is 0 (R84). -/
theorem enterCooldown_eq (s : State) (d : DomainId) : s.enterCooldown d = s.setDom d (s.dom d).cooled := by
  by_cases h : (s.dom d).config.minimumOff = 0
  · by_cases hp : (s.dom d).pendingWake = true
    · simp [State.enterCooldown, Domain.cooled, h, hp, State.minimumOffDone, enterSettling_eq, setDom_setDom]
    · simp [State.enterCooldown, Domain.cooled, h, hp, State.minimumOffDone, State.setDomState]
  · rw [State.enterCooldown, if_neg h, Domain.cooled, if_pos h]; rfl

/-- The work in progress of a domain is empty (R52). -/
theorem workEmpty_iff (s : State) (d : DomainId) : s.workEmpty d = true ↔ NoWork s d := by
  have ho : s.orphanOf d = false ↔
      ∀ a, s.sport.attempt = some a → a.exchange.originator = .orphan → a.exchange.domain ≠ some d := by
    cases h : s.sport.attempt with
    | none => simp [State.orphanOf, h]
    | some a => simp [State.orphanOf, h]
  simp only [State.workEmpty, Bool.and_eq_true, Bool.not_eq_true', ho, NoWork, List.any_eq_false, Entry.isWorkOf,
    Bool.or_eq_true, beq_iff_eq]
  refine and_congr_left fun _ => ⟨fun h e he hd => ?_, fun h e he => ?_⟩
  · have := h e he
    cases h1 : e.state.isQueued <;> cases h2 : e.state.isActive <;> simp_all
  · rintro ⟨h1, hd⟩
    have := h e he hd
    simp_all

/-- A drain completes where nothing is in progress (R83). -/
theorem drainCheck_done (s : State) (d : DomainId) (h : (s.dom d).state = .draining) (hw : NoWork s d) :
    s.drainCheck d = (s.raise .domainDown).setDom d (s.dom d).cooled := by
  have := (workEmpty_iff s d).2 hw
  simp [State.drainCheck, h, DomState.isDraining, this, enterCooldown_eq]

theorem isDraining_iff (x : DomState) : x.isDraining = true ↔ x = .draining := by
  cases x <;> simp [DomState.isDraining]

theorem drainCheck_not (s : State) (d : DomainId) (h : ¬((s.dom d).state = .draining ∧ NoWork s d)) :
    s.drainCheck d = s := by
  have h2 : ¬((s.dom d).state.isDraining = true ∧ s.workEmpty d = true) := by
    rw [isDraining_iff, workEmpty_iff]; exact h
  simp only [State.drainCheck]
  cases h3 : (s.dom d).state.isDraining <;> cases h4 : s.workEmpty d <;> simp_all

/-- Whether anything of a domain is in progress depends on the entries and the exchange alone. -/
theorem noWork_congr {s t : State} (d : DomainId) (he : t.entries = s.entries)
    (ha : t.sport.attempt = s.sport.attempt) : NoWork t d ↔ NoWork s d := by
  simp [NoWork, he, ha]

theorem cooled_state (x : Domain) (y : DomState) : Domain.cooled { x with state := y } = x.cooled := by
  simp [Domain.cooled]

/-- Entering DRAINING, with no work in progress (R83). -/
theorem enterDraining_done (s : State) (d : DomainId) (h : NoWork s d) :
    s.enterDraining d = (s.raise .domainDown).setDom d (s.dom d).cooled := by
  have hw : NoWork (s.setDomState d .draining) d := (noWork_congr d (by simp) (by simp)).2 h
  rw [State.enterDraining, drainCheck_done _ _ (by simp) hw]
  simp only [State.dom_setDomState_self, cooled_state]
  simp [State.setDomState, State.setDom, State.raise, State.withEvents, State.withDomains]

theorem enterDraining_waits (s : State) (d : DomainId) (h : ¬NoWork s d) :
    s.enterDraining d = s.setDom d { s.dom d with state := .draining } := by
  have hw : ¬NoWork (s.setDomState d .draining) d := fun hn => h ((noWork_congr d (by simp) (by simp)).1 hn)
  rw [State.enterDraining, drainCheck_not _ _ (fun hn => hw hn.2)]
  rfl

/-- The wake action of an external input (R99). -/
theorem wakeAction_eq (s : State) (d : DomainId) :
    s.wakeAction d = s.setDom d
      (match (s.dom d).state with
        | .off => if (s.dom d).config.wakeAllowed then (s.dom d).woken else s.dom d
        | .cooldown _ | .draining => if (s.dom d).config.wakeAllowed then (s.dom d).willWake else s.dom d
        | .on _ | .warning _ => (s.dom d).active
        | .settling _ | .checking _ _ | .restoring _ _ | .fault => s.dom d) := by
  cases h : (s.dom d).state <;> simp only [State.wakeAction, h] <;>
    first
      | exact (setDom_dom s d).symm
      | exact activity_eq s d
      | (split <;> first | exact wakeStart_eq s d | exact setPendingWake_eq s d | exact (setDom_dom s d).symm)

/-! ## Entries ended by a fault -/

theorem isFault_iff (x : DomState) : x.isFault = true ↔ x = .fault := by cases x <;> simp [DomState.isFault]

/-- Where no domain has entered FAULT no entry is ended. -/
theorem finishFaulted_none (s t : State) (h : ∀ d, (t.dom d).state = .fault → (s.dom d).state = .fault) :
    finishFaulted s t = t := by
  have hn : ∀ e, faultedEntry s t e = false := by
    intro e
    simp only [faultedEntry]
    cases hd : e.domain? with
    | none => simp
    | some d =>
      have := h d
      simp only [← isFault_iff] at this
      cases h1 : (t.dom d).state.isFault <;> simp_all
  have hq : t.entries.filter (fun _ => false) = [] := by simp [List.filter_eq_nil_iff]
  simp [finishFaulted, State.finishWhere, hn, hq, State.withEntries, State.withReplyQueue]

/-- Where one domain has entered FAULT the entries waiting for it are DONE with DOMAIN_FAULT in arrival order (R51). -/
theorem finishFaulted_one (s t : State) (d : DomainId) (he : t.entries = s.entries) (hq : t.replyQueue = s.replyQueue)
    (ho : ∀ e, e ≠ d → t.dom e = s.dom e) (h1 : (t.dom d).state = .fault) (h2 : (s.dom d).state ≠ .fault) :
    WaitingFaulted s (finishFaulted s t) d := by
  have hp : ∀ e : Entry, (faultedEntry s t e && !e.state.isDone) = e.waitsFor d := by
    intro e
    have hf : (s.dom d).state.isFault = false := by
      cases h : (s.dom d).state.isFault
      · rfl
      · exact absurd ((isFault_iff _).1 h) h2
    simp only [faultedEntry, Entry.waitsFor]
    cases hd : e.domain? with
    | none => simp
    | some x =>
      by_cases hx : x = d
      · subst hx
        have ht : (t.dom x).state.isFault = true := (isFault_iff _).2 h1
        cases e.state <;> simp [ht, hf, EntryState.isQueued, EntryState.isParked, EntryState.isDone]
      · simp only [ho x hx]
        cases h : (s.dom x).state.isFault <;> simp [hx]
  simp [WaitingFaulted, finishFaulted, State.finishWhere, hp, he, hq]

/-! ## Failing, restoring, reaching ON -/

theorem countFailure_dom (s : State) (d : DomainId) :
    (s.countFailure d).dom d = { s.dom d with failedCount := satInc (s.dom d).failedCount } := by
  simp [State.countFailure]

/-- A failed wake attempt below the wake limit (R91). -/
theorem attemptFails_again (s : State) (d : DomainId) (c : FaultCause)
    (h : (s.dom d).attempt < (s.dom d).config.wakeLimit.toNat) :
    s.attemptFails d c =
      ((s.raise .wakeRetry).clearNote d).setDom d
        (Domain.cooled { s.dom d with failedCount := satInc (s.dom d).failedCount, pendingWake := true }) := by
  rw [State.attemptFails, if_pos h, enterCooldown_eq]
  simp [State.countFailure, setPendingWake_eq, Domain.willWake, State.clearNote, State.raise, State.setDom,
    State.withDomains, State.withEvents, State.withSport, State.dom]

/-- A failed wake attempt at the wake limit (R91, R92). -/
theorem attemptFails_last (s : State) (d : DomainId) (c : FaultCause)
    (h : (s.dom d).config.wakeLimit.toNat ≤ (s.dom d).attempt) :
    s.attemptFails d c =
      ((s.raise .domainFault).clearNote d).setDom d
        { s.dom d with
          failedCount := satInc (s.dom d).failedCount, state := .fault, cause := c, pendingWake := false } := by
  rw [State.attemptFails, if_neg (by omega), State.enterFault]
  simp [State.countFailure, State.clearNote, State.raise, State.setDom, State.withDomains, State.withEvents,
    State.withSport, State.dom]

theorem cooled_not_fault (x : Domain) : x.cooled.state ≠ .fault := by
  simp only [Domain.cooled]; split
  · simp
  · split <;> simp

/-- What a failed attempt of one domain does, with the entries it ends (R91, R92). -/
theorem attemptFailed (s u : State) (d : DomainId) (c : FaultCause) (hf : (s.dom d).state ≠ .fault)
    (hd : u.domains = s.domains) (he : u.entries = s.entries) (hq : u.replyQueue = s.replyQueue)
    (hv : u.events = s.events) : AttemptFailed s (finishFaulted s (u.attemptFails d c)) d c := by
  have hdom : ∀ e, u.dom e = s.dom e := fun e => by simp [State.dom, hd]
  refine ⟨?_, ?_, ?_⟩
  · intro e hed
    have hed : e ≠ d := by simpa using hed
    rw [dom_finishFaulted]
    by_cases hl : (u.dom d).attempt < (u.dom d).config.wakeLimit.toNat
    · rw [attemptFails_again u d c hl]; simp [State.dom_setDom_ne _ _ hed, hdom]
    · rw [attemptFails_last u d c (by omega)]; simp [State.dom_setDom_ne _ _ hed, hdom]
  · intro hl
    rw [← hdom d] at hl
    rw [attemptFails_again u d c hl, finishFaulted_none]
    · simp [RaisedOnly, State.raise, hdom, he, hq, hv]
    · intro e
      by_cases hed : e = d
      · subst hed; intro h; exact absurd (by simpa using h) (cooled_not_fault _)
      · simp [State.dom_setDom_ne _ _ hed, hdom]
  · intro hl
    rw [← hdom d] at hl
    rw [attemptFails_last u d c hl]
    refine ⟨by simp [hdom], by simp [RaisedOnly, State.raise, hv], ?_⟩
    refine finishFaulted_one s _ d (by simp [he]) (by simp [hq]) ?_ (by simp) hf
    intro e hed; simp [State.dom_setDom_ne _ _ hed, hdom]

/-- Reaching ON (R90). -/
theorem reachedOn (s u : State) (d : DomainId) (hd : u.domains = s.domains) (he : u.entries = s.entries)
    (hq : u.replyQueue = s.replyQueue) (hv : u.events = s.events) : ReachedOn s (u.reachOn d) d := by
  have hdom : ∀ e, u.dom e = s.dom e := fun e => by simp [State.dom, hd]
  refine ⟨?_, ?_, ?_, ?_, ?_⟩
  · intro e hed
    have hed : e ≠ d := by simpa using hed
    simp [State.reachOn, State.dom_setDom_ne _ _ hed, hdom]
  · simp [State.reachOn, hdom, idleLoad_eq]
  · simp [State.reachOn, State.release, he]
  · simp [State.reachOn, hq]
  · simp [State.reachOn, RaisedOnly, State.raise, hv]

/-- Entering RESTORING (R89, R112). -/
theorem enteredRestoring (s u : State) (d : DomainId) (hd : u.domains = s.domains) (he : u.entries = s.entries)
    (hq : u.replyQueue = s.replyQueue) (hv : u.events = s.events) (hs : u.shadow = s.shadow) :
    EnteredRestoring s (u.enterRestoring d) d := by
  have hdom : ∀ e, u.dom e = s.dom e := fun e => by simp [State.dom, hd]
  refine ⟨?_, ?_⟩
  · intro x rest hl
    rw [← hs] at hl
    simp only [State.enterRestoring, hl]
    refine ⟨by simp [hdom], ?_, by simp [he], by simp [hq], by simp [hv]⟩
    intro e hed
    have hed : e ≠ d := by simpa using hed
    simp [State.dom_setDomState_ne _ _ hed, hdom]
  · intro hl
    rw [← hs] at hl
    simp only [State.enterRestoring, hl]
    exact reachedOn s u d hd he hq hv

end Sys2Proof.Machine
end

