-- ==== Sys2Proof/Laws/Serving.lean ====
section
/-! SUPPORT. What serving a LOCAL entry does, by how the serving ends. -/
namespace Sys2Proof.Machine

/-- The engine serves the oldest LOCAL entry where the row is the entry's (R53). -/
theorem serve_eq (s : State) (k : ServeKind) (e : Entry) (body : Byte → Command → State → Served) (h : Serving s k e) :
    s.serve k body = s.conclude e.tag (body e.tag e.cmd s) := by
  simp [State.serve, h.1, h.2]

/-- The serving entry is LOCAL and in the table. -/
theorem serving_mem (s : State) (k : ServeKind) (e : Entry) (h : Serving s k e) :
    e ∈ s.entries ∧ e.state = .waitingLocal := by
  have h1 := h.1
  refine ⟨List.mem_of_find?_eq_some h1, ?_⟩
  have := List.find?_some h1
  cases hs : e.state <;> simp_all [EntryState.isLocal]

/-- A serving that ends REFUSED changes nothing but the entry, the reply queue and MGMT_ERROR (R146, R162). -/
theorem notServed_refused (s : State) (tag : Byte) :
    NotServed s (announce s (s.conclude tag .refused)) tag .refused := by
  refine ⟨⟨by simp [State.conclude, State.finishEntry, State.setEntryState, entriesAnswered],
    by simp [State.conclude, State.finishEntry]⟩, ?_, ?_, ?_⟩
  · simp [RaisedOnly, State.conclude, State.raise]
  · exact uportKept_announce _ _ (by simp [State.conclude])
  · intro b hb; cases b <;> simp_all [State.agrees, State.conclude]

theorem notServed_invalid (s : State) (tag : Byte) :
    NotServed s (announce s (s.conclude tag .invalid)) tag .invalid := by
  refine ⟨⟨by simp [State.conclude, State.finishEntry, State.setEntryState, entriesAnswered],
    by simp [State.conclude, State.finishEntry]⟩, ?_, ?_, ?_⟩
  · simp [RaisedOnly, State.conclude, State.raise]
  · exact uportKept_announce _ _ (by simp [State.conclude])
  · intro b hb; cases b <;> simp_all [State.agrees, State.conclude]

/-- A serving that ends OK answers the entry in the state its body leaves. -/
theorem answered_ok (s u : State) (tag : Byte) (reply : List Byte) (he : u.entries = s.entries)
    (hq : u.replyQueue = s.replyQueue) : Answered s (announce s (u.finishEntry tag .ok reply)) tag .ok reply := by
  exact ⟨by simp [State.finishEntry, State.setEntryState, entriesAnswered, he], by simp [State.finishEntry, hq]⟩

end Sys2Proof.Machine
end

