-- ==== Sys2Proof/Laws/Folds.lean ====
section
/-! SUPPORT. What an event that acts on several domains does to each of them: the drains of a break, a power-good
falling, and the actions of an external input. -/
namespace Sys2Proof.Machine

theorem allDomains_nodup : allDomains.Nodup := by decide

theorem setDom_dom_of (s : State) (d e : DomainId) (x : Domain) :
    (s.setDom d x).dom e = if e = d then x else s.dom e := by
  by_cases h : e = d
  · subst h; simp
  · simp [State.dom_setDom_ne _ _ h, h]

/-! ## Drains -/

theorem drainCheck_dom (s : State) (d e : DomainId) :
    (s.drainCheck d).dom e =
      if e = d ∧ (s.dom d).state.isDraining = true ∧ s.workEmpty d = true then (s.dom d).cooled else s.dom e := by
  by_cases h : (s.dom d).state = .draining ∧ NoWork s d
  · rw [drainCheck_done s d h.1 h.2]
    have h1 := (isDraining_iff _).2 h.1
    have h2 := (workEmpty_iff s d).2 h.2
    by_cases he : e = d <;> simp [setDom_dom_of, he, h1, h2]
  · rw [drainCheck_not s d h, ← isDraining_iff, ← workEmpty_iff] at *
    by_cases he : e = d
    · subst he; simp [h]
    · simp [he]

theorem drainCheck_status (s : State) (d : DomainId) (c : EventClass) :
    (s.drainCheck d).events.status.has c =
      (s.events.status.has c || (c == .domainDown && ((s.dom d).state.isDraining && s.workEmpty d))) := by
  unfold State.drainCheck
  cases h : ((s.dom d).state.isDraining && s.workEmpty d)
  · simp
  · simp [enterCooldown_eq, has_or_bit]

theorem drainCheck_events (s : State) (d : DomainId) :
    (s.drainCheck d).events.enable = s.events.enable ∧ (s.drainCheck d).events.inputs = s.events.inputs := by
  unfold State.drainCheck; split <;> simp

theorem workEmpty_congr {s t : State} (d : DomainId) (he : t.entries = s.entries)
    (ha : t.sport = s.sport) : t.workEmpty d = s.workEmpty d := by
  simp [State.workEmpty, State.orphanOf, he, ha]

theorem drains_frame (l : List DomainId) (s : State) :
    let t := l.foldl (fun t d => t.drainCheck d) s
    t.uport = s.uport ∧ t.entries = s.entries ∧ t.replyQueue = s.replyQueue ∧ t.parkLimit = s.parkLimit
      ∧ t.windows = s.windows ∧ t.hits = s.hits ∧ t.pg = s.pg ∧ t.shadow = s.shadow ∧ t.sport = s.sport
      ∧ t.straps = s.straps ∧ t.pending = s.pending ∧ t.events.enable = s.events.enable
      ∧ t.events.inputs = s.events.inputs := by
  induction l generalizing s with
  | nil => simp
  | cons a l ih =>
    have h := ih (s.drainCheck a)
    have := drainCheck_events s a
    simp only [List.foldl_cons]
    simp_all

/-- Several drains: each domain in DRAINING with nothing in progress powers down, and no other changes (R52, R83). -/
theorem drains_dom (l : List DomainId) (hl : l.Nodup) (s : State) (e : DomainId) :
    (l.foldl (fun t d => t.drainCheck d) s).dom e =
      if e ∈ l ∧ (s.dom e).state.isDraining = true ∧ s.workEmpty e = true then (s.dom e).cooled else s.dom e := by
  induction l generalizing s with
  | nil => simp
  | cons a l ih =>
    have hn := List.nodup_cons.1 hl
    rw [List.foldl_cons, ih hn.2, workEmpty_congr (s := s) e (by simp) (by simp)]
    by_cases hea : e = a
    · subst hea
      simp only [drainCheck_dom, hn.1, false_and, if_false, List.mem_cons, true_or, true_and]
    · simp only [drainCheck_dom, hea, false_and, if_false, List.mem_cons, false_or]

theorem drains_status (l : List DomainId) (hl : l.Nodup) (s : State) (c : EventClass) :
    (l.foldl (fun t d => t.drainCheck d) s).events.status.has c =
      (s.events.status.has c
        || (c == .domainDown && l.any fun d => (s.dom d).state.isDraining && s.workEmpty d)) := by
  induction l generalizing s with
  | nil => simp
  | cons a l ih =>
    have hn := List.nodup_cons.1 hl
    have hs : (l.any fun d => ((s.drainCheck a).dom d).state.isDraining && (s.drainCheck a).workEmpty d)
        = l.any fun d => (s.dom d).state.isDraining && s.workEmpty d := by
      rw [Bool.eq_iff_iff]
      simp only [List.any_eq_true]
      refine exists_congr fun d => and_congr_right fun hd => ?_
      have hda : d ≠ a := fun h => hn.1 (h ▸ hd)
      rw [workEmpty_congr (s := s) d (by simp) (by simp)]
      simp [drainCheck_dom, hda]
    rw [List.foldl_cons, ih hn.2, hs, drainCheck_status]
    cases s.events.status.has c <;> cases c == EventClass.domainDown <;> simp [List.any_cons]

/-! ## A power-good falling -/

/-- A domain after a power-good falling of the input assigned to it (R95). -/
def Domain.powerLost (x : Domain) : Domain :=
  match x.state with
  | .on _ | .warning _ | .draining => { x with state := .fault, cause := .powerLost, pendingWake := false }
  | .checking _ _ | .restoring _ _ =>
    if x.attempt < x.config.wakeLimit.toNat then
      Domain.cooled { x with failedCount := satInc x.failedCount, pendingWake := true }
    else { x with failedCount := satInc x.failedCount, state := .fault, cause := .pgLow, pendingWake := false }
  | .settling _ | .off | .cooldown _ | .fault => x

/-- The classes a power-good falling sets for a domain assigned to the input (R91, R92, R95). -/
def Domain.powerLostSets (x : Domain) (c : EventClass) : Bool :=
  match x.state with
  | .on _ | .warning _ | .draining => c == .domainFault
  | .checking _ _ | .restoring _ _ =>
    if x.attempt < x.config.wakeLimit.toNat then c == .wakeRetry else c == .domainFault
  | .settling _ | .off | .cooldown _ | .fault => false

theorem powerGoodFalls_dom (s : State) (d e : DomainId) :
    (s.powerGoodFalls d).dom e = if e = d then (s.dom d).powerLost else s.dom e := by
  by_cases hl : (s.dom d).attempt < (s.dom d).config.wakeLimit.toNat <;>
    cases h : (s.dom d).state <;> by_cases he : e = d <;>
    simp [State.powerGoodFalls, Domain.powerLost, h, hl, he, State.enterFault, attemptFails_again, attemptFails_last,
      Nat.le_of_not_lt, setDom_dom_of]

theorem powerGoodFalls_status (s : State) (d : DomainId) (c : EventClass) :
    (s.powerGoodFalls d).events.status.has c = (s.events.status.has c || (s.dom d).powerLostSets c) := by
  by_cases hl : (s.dom d).attempt < (s.dom d).config.wakeLimit.toNat <;>
    cases h : (s.dom d).state <;>
    simp [State.powerGoodFalls, Domain.powerLostSets, h, hl, State.enterFault, attemptFails_again, attemptFails_last,
      Nat.le_of_not_lt, has_or_bit]

/-- The states in which a power-good falling acts (R95). -/
def DomState.fallActs : DomState → Bool
  | .on _ | .warning _ | .draining | .checking _ _ | .restoring _ _ => true
  | .off | .cooldown _ | .settling _ | .fault => false

/-- A power-good falling clears the retry note of a domain it acts on, and no other (R92, R138). -/
theorem powerGoodFalls_notes (s : State) (d : DomainId) :
    ∃ notes, (s.powerGoodFalls d).sport = { s.sport with notes := notes }
      ∧ ∀ e, notes.get e = if e = d ∧ (s.dom d).state.fallActs = true then none else s.sport.notes.get e := by
  have hset : ∀ e, (s.sport.notes.set d none).get e = if e = d then none else s.sport.notes.get e := by
    intro e
    by_cases he : e = d
    · subst he; simp
    · rw [get_set_ne _ _ he, if_neg he]
  by_cases hl : (s.dom d).attempt < (s.dom d).config.wakeLimit.toNat <;>
    cases h : (s.dom d).state <;>
    simp only [State.powerGoodFalls, h, State.enterFault, attemptFails_again, attemptFails_last, hl,
      Nat.le_of_not_lt, not_false_eq_true, DomState.fallActs] <;>
    first
      | exact ⟨s.sport.notes, rfl, fun e => by simp⟩
      | exact ⟨s.sport.notes.set d none, by simp [State.clearNote], fun e => by simp [hset]⟩

theorem falls_frame (i : Fin 4) (l : List DomainId) (s : State) :
    let t := l.foldl (fun t d => if (t.dom d).config.pgInput = some i then t.powerGoodFalls d else t) s
    t.uport = s.uport ∧ t.entries = s.entries ∧ t.replyQueue = s.replyQueue ∧ t.parkLimit = s.parkLimit
      ∧ t.windows = s.windows ∧ t.hits = s.hits ∧ t.pg = s.pg ∧ t.shadow = s.shadow ∧ t.straps = s.straps
      ∧ t.pending = s.pending := by
  induction l generalizing s with
  | nil => simp
  | cons a l ih =>
    simp only [List.foldl_cons]
    have h := ih (if (s.dom a).config.pgInput = some i then s.powerGoodFalls a else s)
    split at h <;> simp_all

theorem powerLost_config (x : Domain) : x.powerLost.config = x.config := by
  unfold Domain.powerLost Domain.cooled; repeat' split
  all_goals rfl

/-- A power-good falling: each domain assigned to the input by its own state, and no other (R94, R95). -/
theorem falls_dom (i : Fin 4) (l : List DomainId) (hl : l.Nodup) (s : State) (e : DomainId) :
    (l.foldl (fun t d => if (t.dom d).config.pgInput = some i then t.powerGoodFalls d else t) s).dom e =
      if e ∈ l ∧ (s.dom e).config.pgInput = some i then (s.dom e).powerLost else s.dom e := by
  induction l generalizing s with
  | nil => simp
  | cons a l ih =>
    have hn := List.nodup_cons.1 hl
    rw [List.foldl_cons, ih hn.2]
    by_cases hea : e = a
    · subst hea
      simp only [hn.1, false_and, if_false, List.mem_cons, true_or, true_and]
      split
      · simp [powerGoodFalls_dom]
      · rfl
    · have : (if (s.dom a).config.pgInput = some i then s.powerGoodFalls a else s).dom e = s.dom e := by
        split
        · simp [powerGoodFalls_dom, hea]
        · rfl
      simp [this, hea]

theorem falls_status (i : Fin 4) (l : List DomainId) (hl : l.Nodup) (s : State) (c : EventClass) :
    (l.foldl (fun t d => if (t.dom d).config.pgInput = some i then t.powerGoodFalls d else t) s).events.status.has c =
      (s.events.status.has c
        || l.any fun d => decide ((s.dom d).config.pgInput = some i) && (s.dom d).powerLostSets c) := by
  induction l generalizing s with
  | nil => simp
  | cons a l ih =>
    have hn := List.nodup_cons.1 hl
    rw [List.foldl_cons, ih hn.2]
    have hs : ∀ d ∈ l,
        (if (s.dom a).config.pgInput = some i then s.powerGoodFalls a else s).dom d = s.dom d := by
      intro d hd
      have hda : d ≠ a := fun h => hn.1 (h ▸ hd)
      split
      · simp [powerGoodFalls_dom, hda]
      · rfl
    have hany : (l.any fun d =>
          decide (((if (s.dom a).config.pgInput = some i then s.powerGoodFalls a else s).dom d).config.pgInput = some i)
            && ((if (s.dom a).config.pgInput = some i then s.powerGoodFalls a else s).dom d).powerLostSets c)
        = l.any fun d => decide ((s.dom d).config.pgInput = some i) && (s.dom d).powerLostSets c := by
      rw [Bool.eq_iff_iff]
      simp only [List.any_eq_true]
      refine exists_congr fun d => and_congr_right fun hd => ?_
      rw [hs d hd]
    rw [hany]
    by_cases hp : (s.dom a).config.pgInput = some i
    · simp [hp, powerGoodFalls_status, Bool.or_assoc]
    · simp [hp]

/-- A power-good falling clears the retry notes of the assigned domains it acts on, and no other (R92, R95, R138). -/
theorem falls_notes (i : Fin 4) (l : List DomainId) (hl : l.Nodup) (s : State) :
    ∃ notes,
      (l.foldl (fun t d => if (t.dom d).config.pgInput = some i then t.powerGoodFalls d else t) s).sport =
        { s.sport with notes := notes }
      ∧ ∀ e, notes.get e =
          if e ∈ l ∧ (s.dom e).config.pgInput = some i ∧ (s.dom e).state.fallActs = true then none
          else s.sport.notes.get e := by
  induction l generalizing s with
  | nil => exact ⟨s.sport.notes, rfl, by simp⟩
  | cons a l ih =>
    have hn := List.nodup_cons.1 hl
    rw [List.foldl_cons]
    by_cases hp : (s.dom a).config.pgInput = some i
    · simp only [hp, if_true]
      obtain ⟨n1, h1, h2⟩ := powerGoodFalls_notes s a
      obtain ⟨n2, g1, g2⟩ := ih hn.2 (s.powerGoodFalls a)
      rw [h1] at g1 g2
      refine ⟨n2, g1, fun e => ?_⟩
      rw [g2 e]
      simp only
      rw [h2 e, powerGoodFalls_dom]
      by_cases hea : e = a
      · subst hea; simp [hn.1, hp]
      · simp [hea]
    · simp only [hp, if_false]
      obtain ⟨n2, g1, g2⟩ := ih hn.2 s
      refine ⟨n2, g1, fun e => ?_⟩
      rw [g2 e]
      by_cases hea : e = a
      · subst hea; simp [hn.1, hp]
      · simp [hea]

/-! ## The actions of a selected edge -/

/-- A domain after the actions of a selected edge (R99, R156). -/
def Domain.edgeActed (x : Domain) (acts wakes : Bool) : Domain :=
  match x.state with
  | .on _ | .warning _ => if acts || wakes then x.active else x
  | .off => if wakes && x.config.wakeAllowed then x.woken else x
  | .cooldown _ | .draining => if wakes && x.config.wakeAllowed then x.willWake else x
  | .settling _ | .checking _ _ | .restoring _ _ | .fault => x

theorem edgeActs_dom (s : State) (c : ExtConfig) (d e : DomainId) :
    (s.edgeActs c d).dom e =
      if e = d then (s.dom d).edgeActed (inDomainSet c.activity d) (inDomainSet c.wake d) else s.dom e := by
  by_cases ha : inDomainSet c.activity d = true <;> by_cases hw : inDomainSet c.wake d = true <;>
    by_cases hwa : (s.dom d).config.wakeAllowed = true <;> cases h : (s.dom d).state <;> by_cases he : e = d <;>
    simp [State.edgeActs, Domain.edgeActed, ha, hw, hwa, h, he, activity_eq, wakeAction_eq, setDom_dom_of,
      Domain.active, DomState.takesActivity, Domain.woken, Domain.willWake]

theorem edges_frame (c : ExtConfig) (l : List DomainId) (s : State) :
    let t := l.foldl (fun t d => t.edgeActs c d) s
    t.uport = s.uport ∧ t.entries = s.entries ∧ t.replyQueue = s.replyQueue ∧ t.parkLimit = s.parkLimit
      ∧ t.windows = s.windows ∧ t.hits = s.hits ∧ t.pg = s.pg ∧ t.shadow = s.shadow ∧ t.sport = s.sport
      ∧ t.events = s.events ∧ t.straps = s.straps ∧ t.pending = s.pending := by
  induction l generalizing s with
  | nil => simp
  | cons a l ih =>
    simp only [List.foldl_cons]
    have h := ih (s.edgeActs c a)
    simp_all

/-- The actions of a selected edge on every domain (R156). -/
theorem edges_dom (c : ExtConfig) (l : List DomainId) (hl : l.Nodup) (s : State) (e : DomainId) :
    (l.foldl (fun t d => t.edgeActs c d) s).dom e =
      if e ∈ l then (s.dom e).edgeActed (inDomainSet c.activity e) (inDomainSet c.wake e) else s.dom e := by
  induction l generalizing s with
  | nil => simp
  | cons a l ih =>
    have hn := List.nodup_cons.1 hl
    rw [List.foldl_cons, ih hn.2]
    by_cases hea : e = a
    · subst hea
      simp [hn.1, edgeActs_dom]
    · simp [edgeActs_dom, hea]

end Sys2Proof.Machine
end

