-- ==== Sys2Proof/Laws/Images.lean ====
section
/-! SUPPORT. Bytes laid over a stored image, and records judged whole. -/
namespace Sys2Proof.Machine

theorem overlay_length (base : Nat) (image : List Byte) (location : Nat) (payload : List Byte) :
    (overlay base image location payload).length = image.length := by
  simp [overlay]

/-- A byte of an image with bytes laid over it. -/
theorem overlay_getD (base : Nat) (image : List Byte) (location : Nat) (payload : List Byte) (i : Nat)
    (h : i < image.length) :
    (overlay base image location payload).getD i 0 =
      if location ≤ base + i ∧ base + i < location + payload.length then payload.getD (base + i - location) 0
      else image.getD i 0 := by
  simp [overlay, h, List.getD_eq_getElem?_getD]

/-- A WRITE that does not touch a record leaves its image as it is (R164). -/
theorem overlay_untouched (base : Nat) (image : List Byte) (location : Nat) (payload : List Byte)
    (h : touches base image.length location payload.length = false) : overlay base image location payload = image := by
  apply List.ext_getElem (by simp [overlay])
  intro i h1 h2
  have : ¬(location ≤ base + i ∧ base + i < location + payload.length) := by
    simp only [touches, Bool.and_eq_false_iff, decide_eq_false_iff_not] at h
    omega
  simp [overlay, this]

/-- Where the stored record reads back from its image, a WRITE is judged on the image with the bytes laid over it,
whether or not it touches the record. -/
theorem rewritten_eq {α : Type} (base : Nat) (image : List Byte) (ofImage : List Byte → Option α) (old : α)
    (location : Nat) (payload : List Byte) (h : ofImage image = some old) :
    rewritten base image ofImage old location payload = ofImage (overlay base image location payload) := by
  unfold rewritten
  split
  · rfl
  · rename_i ht
    rw [overlay_untouched _ _ _ _ (by simpa using ht), h]

/-- Records judged whole: all pass (R69). -/
theorem judgeAll_some {α : Type} {n : Nat} (f : Fin n → Option α) (v : Vector α n) :
    judgeAll f = some v ↔ ∀ i, f i = some (v.get i) := by
  unfold judgeAll
  constructor
  · intro h i
    split at h
    · rename_i hs
      have : v = tabulate n fun i => (f i).get (hs i) := by simpa using h.symm
      rw [this]; simp
    · simp at h
  · intro h
    have hs : ∀ i, (f i).isSome := fun i => by simp [h i]
    rw [dif_pos hs]
    congr 1
    apply Vector.ext
    intro i hi
    have := h ⟨i, hi⟩
    have h2 := get_tabulate (fun i => (f i).get (hs i)) ⟨i, hi⟩
    rw [get_eq_getElem] at h2
    rw [h2]
    simp [this, get_eq_getElem]

/-- Records judged whole: one fails (R69). -/
theorem judgeAll_none {α : Type} {n : Nat} (f : Fin n → Option α) : judgeAll f = none ↔ ∃ i, f i = none := by
  unfold judgeAll
  constructor
  · intro h
    split at h
    · simp at h
    · rename_i hs
      refine Classical.byContradiction fun hn => hs fun i => ?_
      cases hf : f i with
      | none => exact absurd ⟨i, hf⟩ hn
      | some x => rfl
  · rintro ⟨i, hi⟩
    rw [dif_neg]
    intro hs
    have := hs i
    simp [hi] at this

/-- A 16-bit value is its two bytes. -/
theorem joinBytes_hi_lo (h : Half) : joinBytes (hiByte h) (loByte h) = h := by
  simp only [joinBytes, hiByte, loByte]
  apply BitVec.eq_of_getLsbD_eq
  intro i hi
  simp only [BitVec.getLsbD_append, BitVec.getLsbD_setWidth, BitVec.getLsbD_ushiftRight]
  split
  · rename_i h2; simp [h2]
  · rw [show 8 + (i - 8) = i by omega]; simp; intro; omega

theorem joinBytes_toNat (hi lo : Byte) : (joinBytes hi lo).toNat = 256 * hi.toNat + lo.toNat := by
  have h1 := lo.isLt
  have h2 : (joinBytes hi lo).toNat = hi.toNat <<< 8 ||| lo.toNat := BitVec.toNat_append hi lo
  rw [h2, Nat.shiftLeft_add_eq_or_of_lt h1 hi.toNat |>.symm, Nat.shiftLeft_eq]
  omega

theorem hiByte_join (hi lo : Byte) : hiByte (joinBytes hi lo) = hi := by
  apply BitVec.eq_of_getLsbD_eq
  intro i h
  simp only [hiByte, joinBytes, BitVec.getLsbD_setWidth, BitVec.getLsbD_ushiftRight, BitVec.getLsbD_append]
  simp [h]

theorem loByte_join (hi lo : Byte) : loByte (joinBytes hi lo) = lo := by
  apply BitVec.eq_of_getLsbD_eq
  intro i h
  simp only [loByte, joinBytes, BitVec.getLsbD_setWidth, BitVec.getLsbD_append]
  simp [h]

end Sys2Proof.Machine
end

