-- ==== Sys2Proof/Laws/Requests.lean ====
section
/-! SUPPORT. A delivered frame, the arrival's effect on its domain, and finding an entry by its tag. -/
namespace Sys2Proof.Machine

/-- The last character of a check-valid frame delivers it to admission (R20, R25). -/
theorem deliver_eq (s : State) (data tag : Byte) (c : Command) (h : AtDelivery s data tag c) :
    exec (.urxCharacterReceived data .good) s = finishEvent s (s.delivered.admission tag c) := by
  obtain ⟨h1, h2, h3, h4, h5⟩ := h
  simp only [exec, execUrxCharacterReceived, h1, if_true, State.receive, State.withUport_uport, h2,
    State.frameCharacter, State.checkCharacter, h3]
  rw [← h4, ← h5]
  rfl

/-- Delivery changes the U-port alone. -/
@[simp] theorem State.delivered_frame (s : State) :
    s.delivered.entries = s.entries ∧ s.delivered.replyQueue = s.replyQueue ∧ s.delivered.parkLimit = s.parkLimit
      ∧ s.delivered.windows = s.windows ∧ s.delivered.hits = s.hits ∧ s.delivered.domains = s.domains
      ∧ s.delivered.pg = s.pg ∧ s.delivered.shadow = s.shadow ∧ s.delivered.sport = s.sport
      ∧ s.delivered.events = s.events ∧ s.delivered.straps = s.straps ∧ s.delivered.pending = s.pending := by
  simp [State.delivered]

@[simp] theorem State.dom_delivered (s : State) (d : DomainId) : s.delivered.dom d = s.dom d := rfl

/-- A frame admission forwards goes to the window match (R41). -/
theorem forward_eq (s : State) (data tag : Byte) (c : Command) (h : AtDelivery s data tag c)
    (hf : Forwarded s tag c) :
    exec (.urxCharacterReceived data .good) s = finishEvent s (s.delivered.forward tag c) := by
  rw [deliver_eq s data tag c h]
  obtain ⟨h1, h2, h3, h4⟩ := hf
  have h5 : ¬(Config.requestEntries ≤ s.entries.length) := by omega
  have h6 : s.entries.any (fun x => x.tag == tag) = false := by simp; exact h2
  have h7 : ¬(c.target = s.delivered.mgmtAddress) := h4
  simp [State.admission, h5, h6, h3, h7]

/-- What an arrival does to its domain, by class and state (R79). -/
theorem arrivalEffect_eq (s : State) (cls : ActivityClass) (d : DomainId) :
    s.arrivalEffect cls d = s.setDom d
      (match cls with
        | .passive => s.dom d
        | .keep => (s.dom d).active
        | .wake =>
          match (s.dom d).state with
          | .on _ | .warning _ => (s.dom d).active
          | .draining => if (s.dom d).config.wakeAllowed then (s.dom d).willWake else s.dom d
          | .cooldown _ =>
            if (s.dom d).pendingWake || (s.dom d).config.wakeAllowed then (s.dom d).willWake else s.dom d
          | .off => if (s.dom d).config.wakeAllowed then (s.dom d).woken else s.dom d
          | .settling _ | .checking _ _ | .restoring _ _ | .fault => s.dom d) := by
  cases cls
  · simp [State.arrivalEffect, setDom_dom]
  · simp [State.arrivalEffect, activity_eq]
  · cases h : (s.dom d).state <;> simp only [State.arrivalEffect, h] <;>
      first
        | exact (setDom_dom s d).symm
        | exact activity_eq s d
        | (split <;> first | exact wakeStart_eq s d | exact setPendingWake_eq s d | exact (setDom_dom s d).symm)

theorem countHit_hits (s : State) (i : Fin 32) : (s.countHit i).hits = s.hits.set i (satInc (s.hits.get i)) := by
  unfold State.countHit; simp only; split <;> simp

theorem find_tag (l : List Entry) (e : Entry) (hn : (l.map (·.tag)).Nodup) (he : e ∈ l) :
    l.find? (·.tag == e.tag) = some e := by
  induction l with
  | nil => simp at he
  | cons a l ih =>
    simp only [List.map_cons, List.nodup_cons, List.mem_map, not_exists, not_and] at hn
    rcases List.mem_cons.1 he with rfl | he
    · simp
    · have ha : a.tag ≠ e.tag := fun h => hn.1 e he h.symm
      rw [List.find?_cons_of_neg (by simpa using ha)]
      exact ih hn.2 he

/-- With one entry to a tag, an entry is found by its tag (R38). -/
theorem entry?_of_mem (s : State) (e : Entry) (hn : (s.entries.map (·.tag)).Nodup) (he : e ∈ s.entries) :
    s.entry? e.tag = some e := find_tag s.entries e hn he

theorem mem_of_entry? (s : State) (tag : Byte) (e : Entry) (h : s.entry? tag = some e) :
    e ∈ s.entries ∧ e.tag = tag :=
  ⟨List.mem_of_find?_eq_some h, by simpa using List.find?_some h⟩

/-- With one entry to a tag, entries of one tag are one entry. -/
theorem eq_of_tag (l : List Entry) (hn : (l.map (·.tag)).Nodup) (a b : Entry) (ha : a ∈ l) (hb : b ∈ l)
    (h : a.tag = b.tag) : a = b := by
  have h1 := find_tag l a hn ha
  rw [h, find_tag l b hn hb] at h1
  exact (Option.some.inj h1).symm

end Sys2Proof.Machine
end

