-- ==== Sys2Proof/Laws/Segment.lean ====
section
/-! SUPPORT. The arbiter's candidates, the beginning and the end of an attempt, and what an outcome offers and drains. -/
namespace Sys2Proof.Machine

theorem inPhase_some (s : State) (ph : Phase) (x : Exchange) (h : InPhase s ph x) : s.sport.inPhase ph = some x := by
  simp [SPort.inPhase, show s.sport.attempt = _ from h]

/-! ## Candidates -/

theorem isQueued_iff (x : EntryState) : x.isQueued = true ↔ x = .queued := by cases x <;> simp [EntryState.isQueued]

theorem domainServes_iff (s : State) (d : Option DomainId) :
    s.domainServes d = true ↔ ∀ e, d = some e → (s.dom e).state.inService = true := by
  cases d <;> simp [State.domainServes]

/-- The rule of eligibility (R45). -/
theorem eligible_iff (s : State) (ahead : List Entry) (e : Entry) : s.eligible ahead e = true ↔ Eligible s ahead e := by
  simp only [State.eligible, Eligible, Bool.and_eq_true, isQueued_iff, domainServes_iff, Bool.not_eq_true',
    List.any_eq_false, holdsBack, sameDevice, and_assoc]
  refine and_congr_right fun _ => and_congr_right fun hs => and_congr_right fun _ => ?_
  refine forall_congr' fun a => forall_congr' fun _ => ?_
  rw [hs]
  by_cases h1 : a.cmd.target = e.cmd.target <;> by_cases h2 : a.snapshot.isSome = true <;>
    by_cases h3 : a.domain? = e.domain? <;> simp [h1, h2, h3, and_assoc]

theorem oldestEligible_none (s : State) (ahead l : List Entry)
    (h : ∀ before x after, l = before ++ x :: after → ¬Eligible s (ahead ++ before) x) :
    s.oldestEligible ahead l = none := by
  induction l generalizing ahead with
  | nil => rfl
  | cons a l ih =>
    have h0 := h [] a l rfl
    rw [List.append_nil, ← eligible_iff] at h0
    unfold State.oldestEligible
    rw [if_neg h0]
    refine ih (ahead ++ [a]) fun b x r hl => ?_
    simpa using h (a :: b) x r (by simp [hl])

theorem oldestEligible_some (s : State) (ahead pre : List Entry) (e : Entry) (rest : List Entry)
    (he : Eligible s (ahead ++ pre) e)
    (hb : ∀ before x after, pre = before ++ x :: after → ¬Eligible s (ahead ++ before) x) :
    s.oldestEligible ahead (pre ++ e :: rest) = some e := by
  induction pre generalizing ahead with
  | nil =>
    rw [List.append_nil, ← eligible_iff] at he
    simp only [List.nil_append, State.oldestEligible]
    rw [if_pos he]
  | cons a l ih =>
    have h0 := hb [] a l rfl
    rw [List.append_nil, ← eligible_iff] at h0
    simp only [List.cons_append, State.oldestEligible]
    rw [if_neg h0]
    refine ih (ahead ++ [a]) (by simpa using he) fun b x r hl => ?_
    simpa using hb (a :: b) x r (by simp [hl])

/-- No forwarding candidate (R128). -/
theorem forwardCandidate_none (s : State) (h : NoForwarding s) : s.forwardCandidate = none :=
  oldestEligible_none s [] s.entries fun b x r hl => by simpa using h b x r hl

/-- The forwarding candidate that wins (R129). -/
theorem forwardCandidate_some (s : State) (e : Entry) (h : OldestEligible s e) : s.forwardCandidate = some e := by
  obtain ⟨a, r, h1, h2, h3⟩ := h
  unfold State.forwardCandidate
  rw [h1]
  exact oldestEligible_some s [] a e r (by simpa using h2) fun b x t hl => by simpa using h3 b x t hl

theorem nextAttempt_iff (s : State) (d : DomainId) (granted : Bool) (n : Nat) :
    NextAttempt s d granted n ↔ nextAttempt granted (s.sport.notes.get d) = some n := by
  cases granted
  · simp [NextAttempt, nextAttempt]; exact eq_comm
  · cases h : s.sport.notes.get d <;> simp [NextAttempt, nextAttempt, h]; exact eq_comm

/-- The maintenance candidate of a domain (R128). -/
theorem maintenanceOf_iff (s : State) (d : DomainId) (o : Originator) (c : Command) (n : Nat) :
    MaintenanceDue s d o c n ↔ s.maintenanceOf d = some { originator := o, cmd := c, attempt := n } := by
  unfold MaintenanceDue State.maintenanceOf
  cases hs : (s.dom d).state with
  | checking p g =>
    constructor
    · rintro (⟨_, _, h, hn, rfl, rfl⟩ | ⟨_, _, _, h, _⟩)
      · injection h with h1 h2
        subst h1; subst h2
        rw [nextAttempt_iff] at hn
        simp only [hn]; rfl
      · simp at h
    · intro h
      simp only [Option.map_eq_some_iff] at h
      obtain ⟨a, hn, h⟩ := h
      injection h with h1 h2 h3
      subst h1; subst h2; subst h3
      exact .inl ⟨p, g, rfl, (nextAttempt_iff _ _ _ _).2 hn, rfl, rfl⟩
  | restoring k g =>
    constructor
    · rintro (⟨_, _, h, _⟩ | ⟨_, _, x, h, hn, hx, rfl, rfl⟩)
      · simp at h
      · injection h with h1 h2
        subst h1; subst h2
        rw [nextAttempt_iff] at hn
        simp only [hn, hx]; rfl
    · intro h
      simp only at h
      split at h
      · rename_i a x hn hx
        injection h with h
        injection h with h1 h2 h3
        subst h1; subst h2; subst h3
        exact .inr ⟨k, g, x, rfl, (nextAttempt_iff _ _ _ _).2 hn, hx, rfl, rfl⟩
      · simp at h
  | _ => simp

theorem maintenanceCandidate_none (s : State) (h : NoMaintenance s) : s.maintenanceCandidate = none := by
  unfold State.maintenanceCandidate
  rw [List.findSome?_eq_none_iff]
  intro d _
  cases hm : s.maintenanceOf d with
  | none => rfl
  | some m => exact absurd ((maintenanceOf_iff s d m.originator m.cmd m.attempt).2 hm) (h _ _ _ _)

theorem findSome_first {α β : Type} (f : α → Option β) (pre : List α) (a : α) (rest : List α) (b : β)
    (hp : ∀ x ∈ pre, f x = none) (ha : f a = some b) : (pre ++ a :: rest).findSome? f = some b := by
  induction pre with
  | nil => simp [ha]
  | cons x l ih =>
    rw [List.cons_append, List.findSome?_cons, hp x (by simp)]
    exact ih fun y hy => hp y (by simp [hy])

theorem allDomains_split (d : DomainId) : ∃ pre rest, allDomains = pre ++ d :: rest ∧ ∀ x ∈ pre, x < d := by
  refine ⟨allDomains.takeWhile (· < d), (allDomains.dropWhile (· < d)).tail, ?_, ?_⟩ <;> revert d <;> decide

/-- Within maintenance the lowest-numbered domain wins (R129). -/
theorem maintenanceCandidate_some (s : State) (d : DomainId) (o : Originator) (c : Command) (n : Nat)
    (h : MaintenanceDue s d o c n) (hl : ∀ d' < d, ∀ o' c' n', ¬MaintenanceDue s d' o' c' n') :
    s.maintenanceCandidate = some (d, { originator := o, cmd := c, attempt := n }) := by
  obtain ⟨pre, rest, hs, hp⟩ := allDomains_split d
  unfold State.maintenanceCandidate
  rw [hs]
  refine findSome_first _ pre d rest _ ?_ (by rw [(maintenanceOf_iff s d o c n).1 h]; rfl)
  intro x hx
  cases hm : s.maintenanceOf x with
  | none => rfl
  | some m => exact absurd ((maintenanceOf_iff s x m.originator m.cmd m.attempt).2 hm) (hl x (hp x hx) _ _ _)

/-- The beginning of an attempt: SEND at once where the idle period has lasted the recovery gap, else GAP (R131). -/
theorem beginAttempt_sport (s : State) (x : Exchange) (o : WorkClass) (hf : x.format = s.sport.setting) :
    let lasted := ∃ idle, s.sport.line = .mark idle ∧ s.sport.setting.charCycles x.gap ≤ idle
    (lasted → (s.beginAttempt x o).sport =
        { s.sport with
          attempt := some { phase := .send, exchange := x }, inUse := s.sport.setting, prefer := o, line := .space })
      ∧ (¬lasted → (s.beginAttempt x o).sport =
        { s.sport with
          attempt := some { phase := .gap, exchange := x }, inUse := s.sport.setting, prefer := o }) := by
  intro lasted
  constructor
  · rintro ⟨i, h1, h2⟩
    simp [State.beginAttempt, LineState.firstPhase, h1, hf, h2]
  · intro hn
    have : s.sport.line.firstPhase x.format x.gap = .gap := by
      unfold LineState.firstPhase
      split
      · rename_i i hi
        rw [if_neg]
        intro h; exact hn ⟨i, hi, by rw [← hf]; exact h⟩
      all_goals rfl
    simp [State.beginAttempt, this]

/-! ## The end of an attempt -/

/-- The state in which an outcome is delivered: the outcome counted, the S-port FREE (R135). -/
def State.freed (s : State) (line : LineState) (o : AttemptOutcome) : State := s.withSport (s.sport.ended line o)

@[simp] theorem State.freed_frame (s : State) (line : LineState) (o : AttemptOutcome) :
    (s.freed line o).uport = s.uport ∧ (s.freed line o).entries = s.entries ∧ (s.freed line o).replyQueue = s.replyQueue
      ∧ (s.freed line o).parkLimit = s.parkLimit ∧ (s.freed line o).windows = s.windows ∧ (s.freed line o).hits = s.hits
      ∧ (s.freed line o).domains = s.domains ∧ (s.freed line o).pg = s.pg ∧ (s.freed line o).shadow = s.shadow
      ∧ (s.freed line o).events = s.events ∧ (s.freed line o).straps = s.straps
      ∧ (s.freed line o).pending = s.pending ∧ (s.freed line o).sport = s.sport.ended line o := by
  simp [State.freed]

@[simp] theorem State.dom_freed (s : State) (line : LineState) (o : AttemptOutcome) (d : DomainId) :
    (s.freed line o).dom d = s.dom d := rfl

@[simp] theorem SPort.ended_kept (p : SPort) (line : LineState) (o : AttemptOutcome) :
    (p.ended line o).retryCount = p.retryCount ∧ (p.ended line o).notes = p.notes := ⟨rfl, rfl⟩

theorem attemptEnds_eq (s : State) (x : Exchange) (o : AttemptOutcome) (line : LineState) :
    (s.withSport { s.sport with line := line }).attemptEnds x o = (s.freed line o).deliver x o := by
  cases o <;> rfl

/-- A later character of an answer overwrites what an earlier one left of the S-port. -/
@[simp] theorem State.inReceive_inReceive (s : State) (x y : Exchange) : (s.inReceive x).inReceive y = s.inReceive y := rfl

theorem State.inReceive_inPhase (s : State) (x : Exchange) : InPhase (s.inReceive x) .receive x := rfl

@[simp] theorem State.inReceive_line (s : State) (x : Exchange) : (s.inReceive x).sport.line = .mark 0 := rfl

/-- A character that is not the check character leaves the answer incomplete (R12, R134). -/
theorem Answer.take_goes_on (a : Answer) (c : Command) (data : Byte) (h : a.taken ≠ a.length.toNat + 3) :
    (a.take c data).complete = false := by
  unfold Answer.take Answer.complete
  split <;> (simp; try omega)

/-- The check character completes the answer, and the outcome is its judgement (R134, R135). -/
theorem Exchange.take_check (x : Exchange) (data : Byte) (h : x.answer.taken = x.answer.length.toNat + 3) :
    (x.take data).answer.complete = true ∧ (x.take data).answer.judge x.cmd = answerOutcome x data := by
  simp [Exchange.take, Answer.take, Answer.complete, Answer.judge, answerOutcome, expectedAnswerLength, opRead, h]

/-- The answer with one more character taken, field by field (R10, R12, R134). -/
theorem Answer.take_eq (a : Answer) (c : Command) (data : Byte) :
    a.take c data =
      { taken := a.taken + 1
        status := if a.taken = 1 then data else a.status
        length := if a.taken = 2 then data else a.length
        sum := if a.taken = 0 then a.sum else a.sum + data
        payload :=
          if 3 ≤ a.taken ∧ a.taken < a.length.toNat + 3 ∧ a.payload.length < 32 ∧ c.op = 0x01 then a.payload ++ [data]
          else a.payload } := by
  unfold Answer.take
  split <;> rename_i h <;> simp [h, keptAnswerBytes, opRead]
  congr

/-- Whatever ends an attempt, its outcome is delivered with the S-port FREE (R131 to R135). -/
theorem endsAttempt_eq (c : Instr) (s : State) (x : Exchange) (o : AttemptOutcome) (line : LineState)
    (h : EndsAttempt c s x o line) : exec c s = finishEvent s ((s.freed line o).deliver x o) := by
  rw [← attemptEnds_eq]
  rcases h with ⟨rfl, h, rfl, rfl⟩ | ⟨rfl, h, rfl, rfl⟩ | ⟨rfl, h, rfl, rfl⟩ | ⟨rfl, h, h1, h2, rfl, rfl⟩ |
    ⟨data, mark, rfl, h, h1, rfl, h2⟩
  · simp only [exec, execLineIdleWaitLimit, inPhase_some _ _ _ h]; rfl
  · simp only [exec, execEchoMismatch, inPhase_some _ _ _ h]
  · simp only [exec, execAnswerTimeout, inPhase_some _ _ _ h]; rfl
  · simp only [exec, execAnswerGapExpiry, inPhase_some _ _ _ h]
    rw [if_pos ⟨h1, h2⟩]; rfl
  · simp only [exec, execAnswerCharacterReceived, inPhase_some _ _ _ h, h1, if_true]
    rcases h2 with ⟨h2, rfl⟩ | ⟨rfl, h2, h3, rfl⟩ | ⟨rfl, h2, rfl⟩
    · cases mark <;> simp_all [State.answerMarked]
    · have : x.answer.taken = 0 ∧ data ≠ leadAnswer := ⟨h2, h3⟩
      simp only [State.answerMarked, State.answerCharacter]
      rw [if_pos this]
    · obtain ⟨hc, hj⟩ := x.take_check data h2
      simp only [State.answerMarked, State.answerCharacter]
      rw [if_neg fun h => by omega]
      simp only [State.afterAnswer, hc, if_true, ← hj]
      rfl

/-! ## Offers and drains -/

theorem storePut_congr (s t : State) (hd : t.domains = s.domains) (hh : t.shadow = s.shadow) (d : DomainId)
    (x : ShadowEntry) : t.storePut d x = s.storePut d x := by
  have hdom : ∀ e, t.dom e = s.dom e := fun e => by simp [State.dom, hd]
  simp only [State.storePut, State.storeCase, hh, hdom]

theorem capture_store (s u : State) (d : DomainId) (c : Command) (hd : u.domains = s.domains)
    (hh : u.shadow = s.shadow) :
    (u.capture d c).shadow =
        (match captureOf s d c with
          | some h => h
          | none => { s.shadow with incomplete := s.shadow.incomplete.set d true })
      ∧ ∀ k : EventClass, (u.capture d c).events.status.has k =
          (u.events.status.has k || (k == .shadowIncomplete && (captureOf s d c).isNone)) := by
  have hput := storePut_congr s u hd hh
  unfold State.capture captureOf
  by_cases hl : c.length.toNat ≤ 8
  · have h1 : ¬(c.length.toNat > shadowDataLimit) := by simp only [shadowDataLimit]; omega
    rw [if_neg h1, if_pos hl, hput]
    cases s.storePut d { key := { target := c.target, location := c.location }, data := c.payload } with
    | none => simp [State.captureNotMade, hh, has_or_bit]
    | some h => simp
  · have h1 : c.length.toNat > shadowDataLimit := by simp only [shadowDataLimit]; omega
    rw [if_pos h1, if_neg hl]
    simp [State.captureNotMade, hh, has_or_bit]

/-- What an outcome's offer for capture does (R106, R107, R110). -/
theorem offerOutcome_eq (s u : State) (x : Exchange) (o : AttemptOutcome) (hd : u.domains = s.domains)
    (hh : u.shadow = s.shadow) :
    (u.offerOutcome x o).shadow = storeAfter s x o
      ∧ ∀ k : EventClass, (u.offerOutcome x o).events.status.has k = true ↔
          (u.events.status.has k = true ∨ k ∈ classesOfOffer s x o) := by
  cases o with
  | ok p =>
    simp only [State.offerOutcome, AttemptOutcome.isOk, if_true, State.offerCapture, storeAfter, classesOfOffer,
      offeredTo]
    by_cases hw : x.cmd.op = opWrite ∧ x.shadow = true
    · have hw2 : x.cmd.op = 0x02 ∧ x.shadow = true := hw
      rw [if_pos hw, if_pos hw2]
      cases x.domain with
      | none => simp [hh]
      | some d =>
        have hc := capture_store s u d x.cmd hd hh
        refine ⟨hc.1, fun k => ?_⟩
        rw [hc.2 k]
        cases hco : captureOf s d x.cmd <;> simp [hco]
    · have hw2 : ¬(x.cmd.op = 0x02 ∧ x.shadow = true) := hw
      rw [if_neg hw, if_neg hw2]
      simp [hh]
  | _ => simp [State.offerOutcome, AttemptOutcome.isOk, storeAfter, classesOfOffer, offeredTo, hh]

theorem offerOutcome_events (u : State) (x : Exchange) (o : AttemptOutcome) :
    (u.offerOutcome x o).events.enable = u.events.enable ∧ (u.offerOutcome x o).events.inputs = u.events.inputs := by
  unfold State.offerOutcome State.offerCapture State.capture State.captureNotMade
  repeat' split
  all_goals simp

/-- The drain an outcome may complete for its domain (R83). -/
theorem drainDomain_eq (s u : State) (d? : Option DomainId) (hd : u.domains = s.domains) :
    DrainedOnly s (u.drainDomain d?) d?
      ∧ (∀ k : EventClass, (u.drainDomain d?).events.status.has k = true ↔
          (u.events.status.has k = true
            ∨ (k = .domainDown ∧ ∃ d, d? = some d ∧ Drains s (u.drainDomain d?) d)))
      ∧ (u.drainDomain d?).events.enable = u.events.enable
      ∧ (u.drainDomain d?).events.inputs = u.events.inputs := by
  have hdom : ∀ e, u.dom e = s.dom e := fun e => by simp [State.dom, hd]
  cases d? with
  | none => simp [State.drainDomain, DrainedOnly, hdom]
  | some d =>
    simp only [State.drainDomain]
    have hD : Drains s (u.drainCheck d) d ↔ ((u.dom d).state.isDraining = true ∧ u.workEmpty d = true) := by
      rw [Drains, hdom, isDraining_iff, workEmpty_iff]
      exact and_congr_right fun _ => noWork_congr d (by simp) (by simp)
    refine ⟨?_, ?_, drainCheck_events u d⟩
    · intro e
      rw [drainCheck_dom]
      refine ⟨?_, ?_⟩
      · intro he h
        injection he with he
        subst he
        rw [hD] at h
        rw [if_pos ⟨rfl, h⟩, hdom]
      · intro h
        rw [if_neg]
        · exact hdom e
        · rintro ⟨rfl, h2⟩
          exact h ⟨rfl, hD.2 h2⟩
    · intro k
      rw [drainCheck_status]
      simp [hD]

theorem drains_announce (s u t : State) (d : DomainId) : Drains s (announce u t) d ↔ Drains s t d := by
  simp [Drains, NoWork]

end Sys2Proof.Machine
end

