-- ==== Sys2Proof/Tests/Slice0.lean ====
section
/-! SUPPORT. Small tests: the well-formedness smoke test, values the specification works out, one step of a command on
a small state, and for every statement with hypotheses a state and operands that meet them. -/
namespace Sys2Proof.Tests
open Sys2Proof Sys2Proof.Machine
set_option Elab.async false

/-! ## Helpers -/

/-- The state an outcome holds. -/
def after : Host.Outcome State Fault Refusal → State
  | .next t => t
  | .fault _ => State.reset
  | .refused _ => State.reset

/-- A command of the link. -/
def command (op target : Byte) (location : Half) (payload : List Byte) : Command :=
  { op := op, target := target, location := location, length := BitVec.ofNat 8 payload.length, payload := payload }

/-- A READ. -/
def readOf (target : Byte) (location : Half) (length : Byte) : Command :=
  { op := 0x01, target := target, location := location, length := length, payload := [] }

/-- A WRITE to the management space, the straps low. -/
def writing (location : Half) (payload : List Byte) : Command := command 0x02 0x7C location payload

/-- The LOCAL entry of tag 3 with a command. -/
def localEntry (c : Command) : Entry := newEntry 0x03 c none .waitingLocal

/-- After reset, with one LOCAL entry. -/
def serving (c : Command) : State := State.reset.withEntries [localEntry c]

/-- A snapshot naming a domain, or none. -/
def snap (d : Option DomainId) : Snapshot := { window := 0, domain := d, cls := .wake, shadow := true }

/-- An entry of tag 5 under a snapshot, reading a sensor. -/
def sensorEntry (d : Option DomainId) (x : EntryState) : Entry := newEntry 0x05 (readOf 0x21 0x0140 4) (some (snap d)) x

/-- After reset, with domain 0 in a state. -/
def withDomain (x : DomState) : State := State.reset.setDomState 0 x

/-- A receiver in the middle of a frame. -/
def inFrame (x : RxState) (header payload : List Byte) : State :=
  State.reset.withUport
    { State.reset.uport with
      rx := x, asm := { header := header, payload := payload, sum := checkSum (header ++ payload) } }

/-- A state with URX held at space behind a framing error. -/
def heldLine (s : State) : State := s.withUport { s.uport with line := .held }

/-- The check character that ends the frame in `inFrame`. -/
def checkOf (header payload : List Byte) : Byte := 0 - checkSum (header ++ payload)

/-- The header of a READ request of the specification's first worked example (chapter 1). -/
def sensorHeader : List Byte := [0x03, 0x01, 0x21, 0x01, 0x40, 0x04]

/-- A header with the length of a command. -/
def headerFor (tag : Byte) (c : Command) : List Byte :=
  [tag, c.op, c.target, hiByte c.location, loByte c.location, c.length]

/-- A shadow entry of two bytes. -/
def regulator (location : Half) : ShadowEntry := { key := { target := 0x30, location := location }, data := [1, 2] }

/-- After reset, with a list of domain 0. -/
def withList (l : List ShadowEntry) : State :=
  State.reset.withShadow { State.reset.shadow with lists := State.reset.shadow.lists.set 0 l }

/-- A window that covers the whole of target 0x21 for every operation. -/
def openWindow (cls : ActivityClass) (d : Option DomainId) : Window :=
  { Window.powerOn with
    valid := true, permitsRead := true, permitsWrite := true, permitsProbe := true, shadow := true, event := true,
    cls := cls, domain := d, targetBase := 0x21, sizeCode := 16 }

/-- An exchange for an originator. -/
def exchange (o : Originator) (c : Command) (d : Option DomainId) : Exchange :=
  { originator := o, cmd := c, domain := d, shadow := true, gap := 2, attempt := 1, format := .powerOn,
    answerTimeout := 32, answer := .empty }

/-- A state with an attempt in a phase. -/
def inAttempt (s : State) (phase : Phase) (x : Exchange) : State :=
  s.withSport { s.sport with attempt := some { phase := phase, exchange := x } }

/-! ## Values the specification works out -/

/-- The one operand a type does not bound: a tag above 0x0F is refused (R36). -/
theorem test_wellFormed_refuses_tag_0x10 : WellFormed (.parkTimerExpiry 0x10) = false := by decide

theorem test_wellFormed_takes_tag_0x0F : WellFormed (.parkTimerExpiry 0x0F) = true := by decide

/-- No word spells a command. -/
theorem test_no_word_spells_a_command : decodeTableWord 8 0 = none ∧ State.reset.withFetchWord 8 0 = State.reset :=
  ⟨rfl, rfl⟩

/-- The request, segment command, reply and NOTICE of the worked examples of chapter 1. -/
theorem test_frames_of_chapter_1 :
    makeFrame leadRequest sensorHeader = [0xD2, 0x03, 0x01, 0x21, 0x01, 0x40, 0x04, 0x96]
      ∧ segmentFrame (readOf 0x21 0x0140 4) = [0xB4, 0x01, 0x21, 0x01, 0x40, 0x04, 0x99]
      ∧ replyFrame 0x03 .ok [0x11, 0x22, 0x33, 0x44] = [0xD3, 0x03, 0x00, 0x04, 0x11, 0x22, 0x33, 0x44, 0x4F]
      ∧ noticeFrame EventClass.powerUp.bit = [0xD6, 0x00, 0x01, 0xFF]
      ∧ noticeFrame EventClass.parkExpired.bit = [0xD6, 0x08, 0x00, 0xF8] := by
  decide +kernel

/-- Windows 0x40 with mask 0x0F cover 0x40 to 0x4F, and a block of size 4 at 0x0107 runs from 0x0100 to 0x010F
(chapter 4). -/
theorem test_window_blocks :
    let w : Window := { openWindow .passive none with targetBase := 0x40, targetMask := 0x0F, sizeCode := 4,
                                                      locationBase := 0x0107 }
    w.covers (readOf 0x40 0x0100 16) = true ∧ w.covers (readOf 0x4F 0x010F 1) = true
      ∧ w.covers (readOf 0x50 0x0100 1) = false ∧ w.covers (readOf 0x40 0x010F 2) = false
      ∧ w.covers (readOf 0x40 0x00FF 1) = false := by
  decide +kernel

/-- One character of even parity with one stop bit on the line: 0x96 has four ones (R1). -/
theorem test_levels_of_0x96 :
    characterLevels .powerOn 0x96 =
      [.space, .space, .mark, .mark, .space, .mark, .space, .space, .mark, .space, .mark] := by
  decide +kernel

/-! ## One command on a small state -/

theorem test_lead_begins_a_frame :
    (after (exec (.urxCharacterReceived 0xD2 .good) State.reset)).uport.rx = .header
      ∧ (after (exec (.urxCharacterReceived 0xD3 .good) State.reset)).uport.counters.stray = 1 := by
  decide +kernel

theorem test_check_character_delivers_a_read :
    (after (exec (.urxCharacterReceived 0x96 .good) (inFrame .check sensorHeader []))).entries =
        [newEntry 0x03 (readOf 0x21 0x0140 4) none (.done .noWindow [])] := by
  decide +kernel

/-- The sequence of R8 on URX: a start edge, its character with a framing error (a stray), the break; none before. -/
theorem test_break_comes_after_its_character :
    let edge := after (exec (.startEdge .urx) State.reset)
    let held := after (exec (.urxCharacterReceived 0 (.framing .space)) edge)
    let broken := after (exec .upstreamBreak held)
    after (exec .upstreamBreak State.reset) = State.reset ∧ after (exec .upstreamBreak edge) = edge
      ∧ held.uport.counters.stray = 1 ∧ held.uport.counters.breaks = 0
      ∧ broken.uport.counters.breaks = 1 ∧ broken.events.status = 3 ∧ after (exec .upstreamBreak broken) = broken := by
  decide +kernel

/-- ALERT is asserted at the end of a power-on reset and released while RESETN is low (R151). -/
theorem test_alert_around_a_reset :
    (State.reset.outputsAt true).alert = false ∧ (State.reset.outputsAt false).alert = true
      ∧ ((after (exec .wake (serving (writing 0x0402 [1])))).outputsAt false).power.get 2 = true := by
  decide +kernel

theorem test_first_frame_is_the_notice :
    ((after (exec .transmitterChoice State.reset)).uport.tx.map (·.frame)) = some [0xD6, 0x00, 0x01, 0xFF] := by
  decide +kernel

theorem test_identity_is_read :
    (after (exec .mgmtRead (serving (readOf 0x7C 0 10)))).entries =
      [newEntry 0x03 (readOf 0x7C 0 10) none (.done .ok [0x53, 0x41, 0x02, 0x10, 0x20, 0x08, 0xC0, 0x04, 0x04, 0x7C])]
      := by
  decide +kernel

theorem test_domain_config_at_power_on :
    (State.reset.dom 7).config.image = [0, 1, 0, 0, 0, 0, 10, 0, 0, 1, 2, 0, 0, 0, 0, 0] := by
  decide +kernel

theorem test_wake_starts_a_wake :
    ((after (exec .wake (serving (writing 0x0402 [1])))).dom 2).state = .settling 10
      ∧ (after (exec .wake (serving (writing 0x0402 [1])))).powerLine 2 = true := by
  decide +kernel

theorem test_settle_expiry_without_target_reaches_on :
    ((after (exec (.settleExpiry 0) (withDomain (.settling 0)))).dom 0).state = .on none
      ∧ (after (exec (.settleExpiry 0) (withDomain (.settling 0)))).events.status.has .domainUp = true := by
  decide +kernel

theorem test_sleep_with_no_work_powers_down :
    ((after (exec .sleep ((serving (writing 0x0400 [2])).setDomState 0 (.on none)))).dom 0).state = .off := by
  decide +kernel

theorem test_grant_enters_gap_and_gap_ends :
    let s := State.reset.withEntries [sensorEntry none .queued]
    (after (exec .grant s)).sport.attempt.map (·.phase) = some .gap
      ∧ (after (exec .recoveryGapReached (after (exec .grant s)))).sport.frameOnLine =
        some [0xB4, 0x01, 0x21, 0x01, 0x40, 0x04, 0x99] := by
  decide +kernel

/-- The answer of the worked example of chapter 1, its check character last: the entry is answered OK with the data. -/
theorem test_answer_completes_a_read :
    let a : Answer := { taken := 7, status := 0, length := 4, payload := [0x11, 0x22, 0x33, 0x44], sum := 0xAE }
    let s := inAttempt (State.reset.withEntries [sensorEntry none (.active false)]) .receive
      { exchange (.entry 0x05) (readOf 0x21 0x0140 4) none with answer := a }
    (after (exec (.answerCharacterReceived 0x52 .good) s)).entries.map (·.state) =
        [.done .ok [0x11, 0x22, 0x33, 0x44]]
      ∧ (after (exec (.answerCharacterReceived 0x52 .good) s)).sport.counters.exchangesOk = 1 := by
  decide +kernel

theorem test_answer_timeout_requeues :
    let s := inAttempt (State.reset.withEntries [sensorEntry none (.active false)]) .wait
      (exchange (.entry 0x05) (readOf 0x21 0x0140 4) none)
    (after (exec .answerTimeout s)).entries.map (·.state) = [.queued]
      ∧ (after (exec .answerTimeout s)).sport.counters.timeouts = 1 := by
  decide +kernel

theorem test_insert_places_an_entry :
    let bytes : List Byte := [1, 2, 0x30, 0, 0x10, 2, 0xAA, 0xBB, 0, 0, 0, 0, 0, 0, 0, 0]
    (after (exec .insert (serving (writing 0x0430 bytes)))).shadow.list 2 =
      [{ key := { target := 0x30, location := 0x0010 }, data := [0xAA, 0xBB] }] := by
  decide +kernel

theorem test_segment_reset_parks_nothing :
    let s := State.reset.withEntries [sensorEntry (some 0) (.parked 10), localEntry (writing 0x0408 [1])]
    (after (exec .segmentReset s)).entries.map (·.state) = [.done .aborted [], .done .ok []]
      ∧ (after (exec .segmentReset s)).replyQueue = [0x05, 0x03] := by
  decide +kernel

/-- A timer falls on an idle step and rests at 0 (log entry 1). -/
theorem test_idle_step_timers :
    ((after (step (withDomain (.cooldown 10)))).dom 0).state = .cooldown 9
      ∧ ((after (step (withDomain (.cooldown 0)))).dom 0).state = .cooldown 0
      ∧ (after (step (State.reset.withEntries [sensorEntry (some 0) (.parked 5)]))).entries =
        [sensorEntry (some 0) (.parked 4)] := by
  decide +kernel

/-! ## The statements' hypotheses are met -/

theorem test_meets_StepRunsFrontCommand : (State.reset.withPending [.grant]).pending = .grant :: [] := rfl

theorem test_meets_IdleStepPassesOneMillisecond : State.reset.pending = [] := rfl

theorem test_meets_HuntTakesLeadOrCountsStray :
    State.reset.uport.rx = .hunt ∧ State.reset.uport.line.takesCharacter = true
      ∧ (CharMark.good = .good ∧ (0xD2 : Byte) = 0xD2)
      ∧ ¬(CharMark.good = .good ∧ (0xD3 : Byte) = 0xD2) ∧ ¬(CharMark.parity = .good ∧ (0xD2 : Byte) = 0xD2)
      ∧ (State.powerOn { State.resetPins with urx := .space } []).uport.rx = .hunt
      ∧ (State.powerOn { State.resetPins with urx := .space } []).uport.line = .unseen := by
  decide +kernel

/-- A header with five characters taken. -/
def fiveTaken (tag op : Byte) : State := inFrame .header [tag, op, 0x21, 0, 0] []

theorem test_meets_HeaderIsJudgedAtItsSixthCharacter :
    (∀ tag op, (fiveTaken tag op).uport.line.takesCharacter = true ∧ (fiveTaken tag op).uport.rx = .header
        ∧ (fiveTaken tag op).uport.asm.header.length = 5)
      ∧ (inFrame .header [1, 2, 3, 4] []).uport.asm.header.length < 5
      ∧ 0x0F < (((fiveTaken 0x10 0x01).uport.asm.header ++ [0]).getD 0 0).toNat
      ∧ (((fiveTaken 0x0F 0x02).uport.asm.header ++ [33]).getD 1 0 = 0x02
          ∧ 32 < (((fiveTaken 0x0F 0x02).uport.asm.header ++ [33]).getD 5 0).toNat)
      ∧ (∀ n ∈ [(1 : Byte), 32], (((fiveTaken 0x0F 0x02).uport.asm.header ++ [n]).getD 0 0).toNat ≤ 0x0F
          ∧ ((fiveTaken 0x0F 0x02).uport.asm.header ++ [n]).getD 1 0 = 0x02
          ∧ 1 ≤ (((fiveTaken 0x0F 0x02).uport.asm.header ++ [n]).getD 5 0).toNat
          ∧ (((fiveTaken 0x0F 0x02).uport.asm.header ++ [n]).getD 5 0).toNat ≤ 32)
      ∧ (((fiveTaken 0x0F 0x02).uport.asm.header ++ [0]).getD 1 0 = 0x02
          → (((fiveTaken 0x0F 0x02).uport.asm.header ++ [0]).getD 5 0).toNat = 0)
      ∧ ((fiveTaken 0x0F 0x01).uport.asm.header ++ [255]).getD 1 0 ≠ 0x02 := by
  refine ⟨fun _ _ => ⟨rfl, rfl, rfl⟩, ?_⟩
  decide +kernel

/-- A header of a WRITE of `n` bytes. -/
def writeHeader (n : Byte) : List Byte := [0x03, 0x02, 0x30, 0, 0, n]

theorem test_meets_PayloadThenCheckCharacterJudged :
    (inFrame .payload (writeHeader 32) []).uport.line.takesCharacter = true
      ∧ (inFrame .payload (writeHeader 32) []).uport.rx = .payload
      ∧ (inFrame .payload (writeHeader 2) []).uport.asm.header.getD 1 0 = 0x02
      ∧ [(7 : Byte)].length + 1 = ((writeHeader 2).getD 5 0).toNat
      ∧ ([] : List Byte).length + 1 < ((writeHeader 2).getD 5 0).toNat
      ∧ (inFrame .check sensorHeader []).uport.rx = .check
      ∧ (inFrame .check sensorHeader []).uport.asm.sum + 0x96 = 0
      ∧ (inFrame .check sensorHeader []).uport.asm.sum + 0x95 ≠ 0 := by
  decide +kernel

/-- A receiver in a state, its line at mark for some cycles. -/
def idleFor (x : RxState) (cycles : Nat) : State :=
  State.reset.withUport { State.reset.uport with rx := x, line := .mark cycles }

theorem test_meets_ErrorMarkOrGapDiscardsFrame :
    ((idleFor .header 18305).uport.rx = .header ∧ (idleFor .payload 18305).uport.rx = .payload
        ∧ (idleFor .check 18305).uport.rx = .check)
      ∧ (idleFor .header 18305).uport.line.takesCharacter = true
      ∧ (idleFor .header 18305).uport.line = .mark 18305 ∧ (idleFor .header 18305).uport.inUse.charCycles 8 < 18305 := by
  decide +kernel

theorem test_meets_DiscardDropsUntilIdleOrBreak :
    (idleFor .discard 18304).uport.rx = .discard ∧ (idleFor .discard 18304).uport.line.takesCharacter = true
      ∧ (idleFor .discard 18304).uport.line = .mark 18304 ∧ (idleFor .discard 18304).uport.inUse.charCycles 8 ≤ 18304
      ∧ (heldLine (idleFor .discard 18304)).uport.rx = .discard
      ∧ (heldLine (idleFor .discard 18304)).uport.line = .held ∧ LineState.held.isIdle = false := by
  decide +kernel

theorem test_meets_EdgesEndAndBeginIdlePeriods :
    State.reset.uport.line = .mark 0 ∧ State.reset.sport.line = .mark 0
      ∧ (after (exec (.startEdge .urx) State.reset)).uport.line = .space
      ∧ (after (exec (.startEdge .sdl) State.reset)).sport.line = .space := by
  decide +kernel

theorem test_meets_BreakClearsTheUport :
    State.reset.uport.line.takesCharacter = true ∧ State.reset.uport.line ≠ .held
      ∧ (heldLine State.reset).uport.line = .held
      ∧ (after (exec .upstreamBreak (heldLine State.reset))).uport.line = .broken
      ∧ (after (exec .echoMismatch (inAttempt State.reset .send (exchange .orphan (readOf 0x21 0 1) none)))).sport.line =
        .held := by
  decide +kernel

/-- Domain 0 DRAINING, its one entry ACTIVE in WAIT: every clause about a break is met. -/
def draining : State :=
  inAttempt ((withDomain .draining).withEntries [sensorEntry (some 0) (.active false)]) .wait
    (exchange (.entry 0x05) (readOf 0x21 0x0140 4) (some 0))

theorem test_meets_BreakDiscardsEveryEntry :
    (heldLine draining).uport.line = .held ∧ (heldLine draining).sport.attempt.map (·.exchange.originator) = some (.entry 0x05)
      ∧ ((withDomain .draining).dom 0).state = .draining ∧ (withDomain .draining).sport.attempt = none
      ∧ ((after (exec .upstreamBreak (heldLine (withDomain .draining)))).dom 0).state = .off
      ∧ ((after (exec .upstreamBreak (heldLine draining))).dom 0).state = .draining := by
  decide +kernel

/-- A state whose transmitter sends. -/
def sendingFrame (source : TxSource) : State :=
  (State.reset.withUport
      { State.reset.uport with tx := some { source := source, frame := [0], elapsed := 0 } }).withEntries
    [newEntry 0x05 (readOf 0x21 0 1) none (.done .noWindow [])]

theorem test_meets_TransmitterChoosesByPriority :
    State.reset.uport.tx = none ∧ (sendingFrame .notice).uport.tx ≠ none := by
  decide +kernel

theorem test_meets_EndOfAFrameFreesAndChooses :
    (sendingFrame .refusal).uport.sending = some .refusal ∧ (sendingFrame .notice).uport.sending = some .notice
      ∧ (sendingFrame (.reply 5)).uport.sending = some (.reply 5) := by
  decide +kernel

theorem test_meets_CharactersAndFramesReadBack :
    ([] : List Byte).length ≤ 32 ∧ (List.replicate 32 (0 : Byte)).length ≤ 32
      ∧ Level.space ∈ [Level.space, .mark] ∧ Level.mark ∈ [Level.space, .mark].getLast?
      ∧ Level.space ∉ [Level.mark, .mark] := by decide

/-- The receiver about to take the check character of a request. -/
def arriving (s : State) (tag : Byte) (c : Command) : State :=
  s.withUport (inFrame .check (headerFor tag c) c.payload).uport

theorem atDelivery_sensor (s : State) :
    AtDelivery (arriving s 0x03 (readOf 0x21 0x0140 4)) 0x96 0x03 (readOf 0x21 0x0140 4) :=
  ⟨rfl, rfl, show checkSum (sensorHeader ++ []) + 0x96 = 0 by decide +kernel, rfl,
    show headerCommand sensorHeader [] = readOf 0x21 0x0140 4 by decide +kernel⟩

/-- A table with `n` entries of tags 0, 1, and so on. -/
def table (n : Nat) : List Entry :=
  (List.range n).map fun i => newEntry (BitVec.ofNat 8 i) (readOf 0x21 0 1) none .waitingLocal

theorem test_meets_RefusedFrameTakesSlotOrIsOverrun :
    (∀ n, AtDelivery (arriving (State.reset.withEntries (table n)) 0x03 (readOf 0x21 0x0140 4)) 0x96 0x03
        (readOf 0x21 0x0140 4))
      ∧ (table 16).length = 16 ∧ (table 15).length < 16 ∧ (∃ e ∈ table 15, e.tag = 0x03)
      ∧ State.reset.uport.slot = none
      ∧ (∀ s : State, AtDelivery s 0x96 0x03 (readOf 0x21 0x0140 4) →
        AtDelivery (s.withUport { s.uport with slot := some { tag := 1, cause := .busy } }) 0x96 0x03
          (readOf 0x21 0x0140 4)) :=
  ⟨fun _ => atDelivery_sensor _, by decide, by decide, by decide, rfl, fun _ h => h⟩

theorem test_meets_MalformedAndManagementRequests :
    let bad := readOf 0x21 0 33
    let good := readOf 0x7C 0 16
    AtDelivery (arriving State.reset 0x03 bad) (checkOf (headerFor 0x03 bad) []) 0x03 bad ∧ malformed bad = true
      ∧ AtDelivery (arriving State.reset 0x03 good) (checkOf (headerFor 0x03 good) []) 0x03 good
      ∧ malformed good = false ∧ good.target = State.reset.mgmtAddress ∧ (table 15).length < 16
      ∧ (∀ e ∈ (table 3), e.tag ≠ 0x03) ∧ malformed (readOf 0x7F 0xFFE0 32) = false
      ∧ malformed (readOf 0x7F 0xFFE1 32) = true :=
  ⟨⟨rfl, rfl, by decide +kernel, rfl, by decide +kernel⟩, by decide +kernel,
    ⟨rfl, rfl, by decide +kernel, rfl, by decide +kernel⟩, by decide +kernel⟩

theorem test_meets_WindowsCoverAndMatch : malformed (readOf 0x21 0xFFFF 1) = false := by decide +kernel

/-- A window record that permits nothing it covers. -/
def shutWindow : Window := { openWindow .passive none with permitsRead := false }

/-- After reset, with window 0 so, domain 0 in a state, and a READ of a sensor about to be delivered. -/
def arrivingAt (w : Window) (x : DomState) : State :=
  arriving ((withDomain x).withWindows (State.reset.windows.set 0 w)) 0x03 (readOf 0x21 0x0140 4)

theorem test_meets_UncoveredOrDeniedRequest :
    AtDelivery (arriving State.reset 0x03 (readOf 0x21 0x0140 4)) 0x96 0x03 (readOf 0x21 0x0140 4)
      ∧ Forwarded (arriving State.reset 0x03 (readOf 0x21 0x0140 4)) 0x03 (readOf 0x21 0x0140 4)
      ∧ State.reset.matchedWindow (readOf 0x21 0x0140 4) = none
      ∧ AtDelivery (arrivingAt shutWindow .off) 0x96 0x03 (readOf 0x21 0x0140 4)
      ∧ Forwarded (arrivingAt shutWindow .off) 0x03 (readOf 0x21 0x0140 4)
      ∧ (arrivingAt shutWindow .off).matchedWindow (readOf 0x21 0x0140 4) = some 0
      ∧ shutWindow.permits 0x01 = false :=
  ⟨atDelivery_sensor _, ⟨by decide +kernel, by decide +kernel, by decide +kernel, by decide +kernel⟩,
    by decide +kernel, atDelivery_sensor _,
    ⟨by decide +kernel, by decide +kernel, by decide +kernel, by decide +kernel⟩, by decide +kernel, by decide +kernel⟩

/-- One state of each kind, timers at an end of their ranges. -/
def someStates : List DomState :=
  [.off, .cooldown 0, .settling 0, .checking 0x21 false, .restoring (regulator 0).key false, .on none, .warning 0,
    .draining, .fault]

theorem test_meets_ArrivalTableDecidesTheEntry :
    ∀ cls ∈ [ActivityClass.passive, .keep, .wake], ∀ d ∈ [none, some (0 : DomainId)], ∀ x ∈ someStates,
      AtDelivery (arrivingAt (openWindow cls d) x) 0x96 0x03 (readOf 0x21 0x0140 4)
        ∧ Forwarded (arrivingAt (openWindow cls d) x) 0x03 (readOf 0x21 0x0140 4)
        ∧ ((arrivingAt (openWindow cls d) x).matchedWindow (readOf 0x21 0x0140 4) = some 0
          ∧ (openWindow cls d).permits 0x01 = true ∧ ((arrivingAt (openWindow cls d) x).dom 0).state = x) := by
  intro cls hc d hd x hx
  refine ⟨atDelivery_sensor _, ⟨show 0 < 16 by decide, fun _ h => (List.not_mem_nil h).elim, rfl, ?_⟩, ?_⟩
  · show (0x21 : Byte) ≠ State.mgmtAddress State.reset
    decide +kernel
  · revert x hx d hd cls hc
    decide +kernel

theorem test_meets_ParkTimerExpiryAnswersRetry :
    let s := State.reset.withEntries [sensorEntry (some 0) (.parked 0)]
    (s.entries.map (·.tag)).Nodup ∧ sensorEntry (some 0) (.parked 0) ∈ s.entries
      ∧ (sensorEntry (some 0) (.parked 0)).state = .parked 0
      ∧ (sensorEntry (some 0) (.parked 0)).domain? = some 0 := by
  decide +kernel

/-! A busy part: one entry QUEUED for no domain, one DONE and on the reply queue, a grant waiting. -/

/-- The busy part. -/
def busy : State :=
  ((State.reset.withEntries
      [sensorEntry none .queued, newEntry 0x06 (readOf 0x21 0 1) none (.done .noWindow [])]).withReplyQueue
    [0x06]).withPending [.grant]

theorem busy_requestTable : RequestTableOk busy :=
  ⟨by decide, by decide, by decide, by decide, fun _ h => (by cases h), by
    intro e he hd
    have : ∀ e ∈ busy.entries, e.state.isDone = true → e.tag ∈ busy.replyQueue := by decide
    exact .inl (this e he hd)⟩

theorem test_meets_EntriesKeepRequestAndDoneIsFinal :
    RequestTableOk busy ∧ exec .grant busy = .next (after (exec .grant busy))
      ∧ Instr.grant ≠ .upstreamBreak ∧ (∀ pins, Instr.grant ≠ .powerOnReset pins) ∧ Instr.grant ≠ .replySent
      ∧ ∀ i : Fin 2, ∃ e ∈ busy.entries, ∃ x ∈ (after (exec .grant busy)).entries, x.tag = e.tag
        ∧ e.state.isDone = (i == 1) :=
  ⟨busy_requestTable, rfl, by decide, fun _ h => (by cases h), by decide, by decide +kernel⟩

/-- Domain 0 with a configuration and a state. -/
def configured (c : DomainConfig) (x : DomState) : State :=
  State.reset.setDom 0 { Domain.powerOn with config := c, state := x }

theorem test_meets_TimerExpiriesMoveTheDomain :
    let held := configured { DomainConfig.powerOn with mode := .heldMode } (.on (some 0))
    let warns := configured { DomainConfig.powerOn with warning := 1 } (.on (some 0))
    ((held.dom 0).state = .on (some 0) ∧ (held.dom 0).config.mode = .heldMode)
      ∧ ((warns.dom 0).state = .on (some 0) ∧ (warns.dom 0).config.mode = .managed ∧ (warns.dom 0).config.warning ≠ 0)
      ∧ (((withDomain (.on (some 0))).dom 0).state = .on (some 0)
          ∧ ((withDomain (.on (some 0))).dom 0).config.warning = 0)
      ∧ ((withDomain (.warning 0)).dom 0).state = .warning 0 ∧ ((withDomain (.cooldown 0)).dom 0).state = .cooldown 0
      ∧ ((withDomain (.cooldown 0)).dom 0).pendingWake = false
      ∧ ((withDomain (.cooldown 0)).setDom 1 { Domain.powerOn with state := .cooldown 0, pendingWake := true }).dom 1
        = { Domain.powerOn with state := .cooldown 0, pendingWake := true } := by
  decide +kernel

/-- Domain 0 in ON with no work, and with an entry QUEUED under it. -/
theorem test_meets_NoWork :
    NoWork (withDomain (.on none)) 0
      ∧ ¬NoWork ((withDomain (.on none)).withEntries [sensorEntry (some 0) .queued]) 0 := by
  refine ⟨⟨fun _ h => (List.not_mem_nil h).elim, fun _ h => by cases h⟩, fun h => ?_⟩
  have := (h.1 (sensorEntry (some 0) .queued) (List.mem_singleton.2 rfl) rfl).1
  cases this

theorem test_meets_SettleExpiryDecidesTheAttempt :
    let c (i : Option (Fin 4)) (target : Option Byte) : DomainConfig :=
      { DomainConfig.powerOn with pgInput := i, checkTarget := target }
    let low := configured (c (some 3) none) (.settling 0)
    let probing := configured (c none (some 0x21)) (.settling 0)
    (low.dom 0).state = .settling 0 ∧ (low.dom 0).config.pgInput = some 3 ∧ (low.pg.get 3).level = false
      ∧ (probing.dom 0).state = .settling 0 ∧ (probing.dom 0).config.pgInput = none
      ∧ (probing.dom 0).config.checkTarget = some 0x21
      ∧ ((withDomain (.settling 0)).dom 0).config.pgInput = none
      ∧ ((withDomain (.settling 0)).dom 0).config.checkTarget = none := by
  decide +kernel

/-- Power-good input 3 with a filter. -/
def pgAt (f : Filter) (s : State) : State := s.withPg (s.pg.set 3 f)

theorem test_meets_PowerGoodFallingActsByState :
    ((pgAt ⟨false, some 1⟩ State.reset).pg.get 3).progress ≠ none
      ∧ ((pgAt ⟨false, some 1⟩ State.reset).pg.get 3).level = false
      ∧ (State.reset.pg.get 3).progress = none
      ∧ ∀ x ∈ someStates,
        let s := pgAt ⟨true, some 1⟩ (configured { DomainConfig.powerOn with pgInput := some 3 } x)
        (s.pg.get 3).progress ≠ none ∧ (s.pg.get 3).level = true ∧ (s.dom 0).config.pgInput = some 3
          ∧ (s.dom 0).state = x ∧ (s.dom 1).config.pgInput ≠ some 3
          ∧ (s.dom 0).attempt < (s.dom 0).config.wakeLimit.toNat
          ∧ (s.setDom 0 { s.dom 0 with attempt := 1 }).dom 0 = { s.dom 0 with attempt := 1 }
          ∧ (s.dom 0).config.wakeLimit.toNat ≤ 1 := by
  decide +kernel

/-- External input 2 with a configuration, its filter in progress. -/
def evAt (c : ExtConfig) : State :=
  State.reset.withEvents
    { State.reset.events with
      inputs := State.reset.events.inputs.set 2 { config := c, filter := ⟨false, some 1⟩, seen := false } }

theorem test_meets_SelectedEdgeActs :
    let x := (evAt ⟨.rising, true, 0x81, 0x80⟩).events.inputs.get 2
    x.filter.progress ≠ none ∧ x.config.edge = .rising ∧ (!x.filter.level) = true
      ∧ x.config.activity.getLsbD 7 = true ∧ x.config.wake.getLsbD 7 = true ∧ x.config.activity.getLsbD 1 = false
      ∧ x.config.wake.getLsbD 0 = false
      ∧ ((evAt ⟨.falling, true, 0, 0⟩).events.inputs.get 2).config.edge = .falling
      ∧ ((evAt ⟨.falling, true, 0, 0⟩).events.inputs.get 2).filter.progress ≠ none
      ∧ (State.reset.events.inputs.get 2).filter.progress = none := by
  decide +kernel

theorem test_meets_OnlyNamedCommandsChangeTables :
    exec .grant busy = .next (after (exec .grant busy)) ∧ (∀ pins, Instr.grant ≠ .powerOnReset pins)
      ∧ ((withDomain .fault).dom 0).state = .fault :=
  ⟨rfl, fun _ h => (by cases h), by decide +kernel⟩

/-- LINK_ERROR alone enabled, no class set, URX held at space. -/
def quiet : State := heldLine (State.reset.withEvents { State.reset.events with status := 0, enable := 2 })

theorem test_meets_EventClassesPowerLinesAndNoticePending :
    (quiet.alert = false ∧ (after (exec .upstreamBreak quiet)).alert = true
        ∧ ((quiet.dom 0).config.polarity = .activeHigh)
        ∧ ((configured { DomainConfig.powerOn with polarity := .activeLow } .off).dom 0).config.polarity = .activeLow)
      ∧ exec .upstreamBreak quiet = .next (after (exec .upstreamBreak quiet))
      ∧ (∀ pins, Instr.upstreamBreak ≠ .powerOnReset pins) :=
  ⟨by decide +kernel, rfl, fun _ h => (by cases h)⟩

theorem test_meets_RestoringListDoesNotChange :
    ((withDomain (.restoring (regulator 0).key false)).dom 0).state.isRestoring = true
      ∧ exec .grant (withDomain (.restoring (regulator 0).key false)) =
        .next (after (exec .grant (withDomain (.restoring (regulator 0).key false)))) :=
  ⟨by decide +kernel, rfl⟩

/-! ### The management engine -/

/-- An entry alone in LOCAL is the one a row that names it serves. -/
theorem served (s : State) (k : ServeKind) (c : Command) (he : s.entries = [localEntry c]) (h : serves k c = true) :
    Serving s k (localEntry c) :=
  ⟨by rw [State.oldestLocal, he]; rfl, h⟩

theorem test_meets_ReadsAndProbesAreServed :
    Serving (serving (readOf 0x7C 0x000F 1)) .mgmtRead (localEntry (readOf 0x7C 0x000F 1))
      ∧ (readOf 0x7C 0x000F 1).region = some .identity
      ∧ Serving (serving (readOf 0x7C 0x000F 2)) .mgmtRead (localEntry (readOf 0x7C 0x000F 2))
      ∧ (readOf 0x7C 0x000F 2).region = none
      ∧ Serving (serving (command 0x03 0x7C 0xFFFF [])) .mgmtProbe (localEntry (command 0x03 0x7C 0xFFFF []))
      ∧ 1 ≤ (writing 0x0400 [1]).length.toNat ∧ ∀ e, ¬Serving State.reset .wake e :=
  ⟨served _ _ _ rfl (by decide +kernel), by decide +kernel, served _ _ _ rfl (by decide +kernel), by decide +kernel,
    served _ _ _ rfl (by decide +kernel), by decide +kernel, fun _ h => nomatch h.1⟩

/-- Which row serves a WRITE: by its location, its length and its code; one that spans both formats, by either; one that
gives no row's code, MGMT_WRITE (R118, R164, R172, R173; log entry 8). -/
theorem test_rows_by_location_and_code :
    ([ServeKind.wake, .sleep, .clearFault, .clearShadow].map fun k => serves k (writing 0x0407 [2])) =
        [false, true, false, false]
      ∧ serves .mgmtWrite (writing 0x0400 [5]) = true ∧ serves .mgmtWrite (writing 0x0400 [1, 1]) = true
      ∧ serves .clearCounters (writing 0x0408 [2]) = true ∧ serves .segmentReset (writing 0x0408 [2]) = false
      ∧ serves .uportFormatWrite (writing 0x0013 [0, 0]) = true
      ∧ serves .sportFormatWrite (writing 0x0013 [0, 0]) = true ∧ serves .mgmtWrite (writing 0x0018 [4]) = true := by
  decide +kernel

theorem test_meets_ManagementMapAndRegionBytes :
    1 ≤ 1 ∧ regionOf 0x0020 6 = some .events ∧ regionOf 0x0020 7 = none ∧ regionOf 0x0026 1 = none := by
  decide +kernel

/-- The settings law looks at nothing a LOCAL entry changes. -/
theorem serving_settings (c : Command) : SettingsOk (serving c) := by
  refine ⟨rfl, rfl, fun _ h => (by cases h), rfl, rfl, ?_, ?_, ?_, ?_, ?_, fun d => ?_⟩
  · show 4 ≤ (State.reset.sport.answerTimeout).toNat; decide
  · show (State.reset.sport.retryCount).toNat ≤ 3; decide
  · show 1 ≤ (State.reset.sport.defaultGap).toNat; decide
  · show (State.reset.sport.defaultGap).toNat ≤ 16; decide
  · show 1 ≤ (State.reset.parkLimit).toNat; decide
  · have h : (serving c).dom d = .powerOn := by show State.reset.dom d = _; revert d; decide +kernel
    rw [h]
    exact ⟨⟨by decide, by decide, by decide, by decide, by decide, fun _ h => (by cases h)⟩, rfl⟩

/-- Whole settings images at the ends of the ranges, and one just outside each. -/
def lowSettings : List Byte := [0, 1, 0, 1, 0, 1, 0, 1, 4, 0, 1, 1, 0, 0, 0, 0]
/-- The upper ends. -/
def highSettings : List Byte := [2, 2, 0x0F, 0xFF, 2, 2, 0x0F, 0xFF, 255, 3, 16, 255, 9, 9, 9, 9]
/-- An answer timeout of 3. -/
def badSettings : List Byte := [0, 1, 0, 1, 0, 1, 0, 1, 3, 0, 1, 1, 0, 0, 0, 0]

theorem test_meets_SettingsWritesAreJudgedWhole :
    SettingsOk (serving (writing 0x0010 lowSettings))
      ∧ (∀ l ∈ [lowSettings, highSettings, badSettings],
        (writing 0x0010 l).region = some .settings ∧ (writing 0x0010 l).payload.length = (writing 0x0010 l).length.toNat
          ∧ Serving (serving (writing 0x0010 l)) .uportFormatWrite (localEntry (writing 0x0010 l))
          ∧ Serving (serving (writing 0x0010 l)) .sportFormatWrite (localEntry (writing 0x0010 l)))
      ∧ Serving (serving (writing 0x0018 [4])) .mgmtWrite (localEntry (writing 0x0018 [4])) := by
  refine ⟨serving_settings _, fun l hl => ⟨?_, ?_, served _ _ _ rfl ?_, served _ _ _ rfl ?_⟩,
    served _ _ _ rfl (by decide +kernel)⟩ <;> revert l hl <;> decide +kernel

theorem test_settings_at_the_ends :
    (after (exec .uportFormatWrite (serving (writing 0x0010 lowSettings)))).entries.map (·.state) = [.done .ok []]
      ∧ (after (exec .uportFormatWrite (serving (writing 0x0010 highSettings)))).entries.map (·.state) =
        [.done .ok []]
      ∧ (after (exec .uportFormatWrite (serving (writing 0x0010 badSettings)))).entries.map (·.state) =
        [.done .invalid []] := by
  decide +kernel

theorem test_meets_WritesWithoutARowOfTheirOwn :
    Serving (serving (writing 0x0028 [3, 1, 255, 255])) .mgmtWrite (localEntry (writing 0x0028 [3, 1, 255, 255]))
      ∧ (writing 0x0028 [3, 1, 255, 255]).region = some .extConfig
      ∧ Serving (serving (writing 0x0028 [4])) .mgmtWrite (localEntry (writing 0x0028 [4]))
      ∧ Serving (serving (writing 0x0000 [0])) .mgmtWrite (localEntry (writing 0x0000 [0]))
      ∧ (writing 0x0000 [0]).region = some .identity
      ∧ (after (exec .mgmtWrite (serving (writing 0x0028 [3, 1, 255, 255])))).entries.map (·.state) = [.done .ok []]
      ∧ (after (exec .mgmtWrite (serving (writing 0x0028 [4])))).entries.map (·.state) = [.done .invalid []] :=
  ⟨served _ _ _ rfl (by decide +kernel), by decide +kernel, served _ _ _ rfl (by decide +kernel),
    served _ _ _ rfl (by decide +kernel), by decide +kernel, by decide +kernel, by decide +kernel⟩

theorem test_meets_EnableAndClearWritesTakeEffectTogether :
    let good := writing 0x0022 [0x7F, 0xFF, 0x7F, 0xFF]
    let high := writing 0x0022 [0x80]
    let touching := writing 0x0021 [0, 0]
    Serving (serving good) .enableWrite (localEntry good) ∧ Serving (serving good) .clearWrite (localEntry good)
      ∧ Serving (serving high) .enableWrite (localEntry high)
      ∧ Serving (serving touching) .enableWrite (localEntry touching)
      ∧ (after (exec .clearWrite (serving good))).entries.map (·.state) = [.done .ok []]
      ∧ (after (exec .enableWrite (serving high))).entries.map (·.state) = [.done .invalid []]
      ∧ (after (exec .enableWrite (serving touching))).entries.map (·.state) = [.done .invalid []] :=
  ⟨served _ _ _ rfl (by decide +kernel), served _ _ _ rfl (by decide +kernel), served _ _ _ rfl (by decide +kernel),
    served _ _ _ rfl (by decide +kernel), by decide +kernel, by decide +kernel, by decide +kernel⟩

theorem test_meets_WindowWritesAreJudgedWhole :
    let good := writing 0x01F8 [0xBF, 0xFF, 0x7F, 0x7F, 16, 0xFF, 0xFF, 0xFF]
    let bad := writing 0x0100 [0xC0]
    Serving (serving good) .windowWrite (localEntry good) ∧ Serving (serving bad) .windowWrite (localEntry bad)
      ∧ ((after (exec .windowWrite (serving good))).windows.get 31).image =
        [0xBF, 0xFF, 0x7F, 0x7F, 16, 0xFF, 0xFF, 0]
      ∧ (after (exec .windowWrite (serving bad))).entries.map (·.state) = [.done .invalid []] :=
  ⟨served _ _ _ rfl (by decide +kernel), served _ _ _ rfl (by decide +kernel), by decide +kernel, by decide +kernel⟩

theorem test_meets_DomainConfigWritesAreJudgedWhole :
    let good := writing 0x0370 [1, 1, 1, 1, 4, 0x7F, 1, 255, 255, 4, 16, 0xFF, 0xFF]
    let bad := writing 0x0375 [0x7C]
    (∀ d, ConfigOk (serving good).mgmtAddress ((serving good).dom d).config)
      ∧ Serving (serving good) .domainConfigWrite (localEntry good)
      ∧ Serving (serving bad) .domainConfigWrite (localEntry bad)
      ∧ (after (exec .domainConfigWrite (serving good))).entries.map (·.state) = [.done .ok []]
      ∧ (after (exec .domainConfigWrite (serving bad))).entries.map (·.state) = [.done .invalid []]
      ∧ ((withDomain (.warning 0)).dom 0).config.mode = .managed :=
  ⟨fun d => ((serving_settings _).2.2.2.2.2.2.2.2.2.2 d).1, served _ _ _ rfl (by decide +kernel),
    served _ _ _ rfl (by decide +kernel), by decide +kernel, by decide +kernel, by decide +kernel⟩

/-- Domain 7 MANAGED in WARNING, a WRITE of mode HELD waiting for it: it returns to ON, the idle timer stopped (R82). -/
theorem test_meets_mode_change_in_warning :
    let s := (serving (writing 0x0370 [1])).setDomState 7 (.warning 50)
    Serving s .domainConfigWrite (localEntry (writing 0x0370 [1]))
      ∧ (∀ d, (s.dom d).config = .powerOn)
      ∧ ((s.dom 7).config.mode = .managed ∧ (s.dom 7).state.isWarning = true
        ∧ ((after (exec .domainConfigWrite s)).dom 7).config.mode = .heldMode
        ∧ ((after (exec .domainConfigWrite s)).dom 7).state = .on none) :=
  ⟨served _ _ _ rfl (by decide +kernel), by decide +kernel, by decide +kernel⟩

/-- The location of a domain's command. -/
def commandOf (d : DomainId) : Half := 0x0400 + BitVec.ofNat 16 d.val

/-- The domain commands of every domain, in every state. -/
theorem test_meets_domain_commands :
    ∀ (d : DomainId), ∀ k ∈ [(ServeKind.wake, (1 : Byte)), (.sleep, 2), (.clearFault, 3), (.clearShadow, 4)],
      ∀ x ∈ someStates,
        let s := (serving (writing (commandOf d) [k.2])).setDomState d x
        Serving s k.1 (localEntry (writing (commandOf d) [k.2]))
          ∧ ((writing (commandOf d) [k.2]).location.toNat = 0x0400 + d.val ∧ (s.dom d).state = x) := by
  intro d k hk x hx
  refine ⟨served _ _ _ rfl ?_, ?_⟩
  · revert d k hk; decide +kernel
  · revert d k hk x hx; decide +kernel

theorem test_meets_SegmentResetAbortsAndPowersDown :
    Serving (serving (writing 0x0408 [1])) .segmentReset (localEntry (writing 0x0408 [1])) :=
  served _ _ _ rfl (by decide +kernel)

theorem test_meets_ClearCountersZeroesEveryCounter :
    Serving (serving (writing 0x0408 [2])) .clearCounters (localEntry (writing 0x0408 [2])) :=
  served _ _ _ rfl (by decide +kernel)

/-- A list of one domain with a cursor at its head. -/
def cursorAt : State :=
  (withList [regulator 0, regulator 8]).withShadow
    { (withList [regulator 0, regulator 8]).shadow with selected := some 0, position := some (regulator 0).key }

theorem test_meets_CursorSelectsAndReads :
    (∀ v ∈ [(0 : Byte), 7, 8], Serving (serving (writing 0x0410 [v])) .shadowSelect (localEntry (writing 0x0410 [v]))
        ∧ (localEntry (writing 0x0410 [v])).cmd.payload = v :: [])
      ∧ (7 : Byte).toNat = (7 : DomainId).val ∧ 7 < (8 : Byte).toNat
      ∧ Serving (serving (readOf 0x7C 0x0420 16)) .shadowRead (localEntry (readOf 0x7C 0x0420 16))
      ∧ Serving (serving (readOf 0x7C 0x0420 15)) .shadowRead (localEntry (readOf 0x7C 0x0420 15))
      ∧ (serving (readOf 0x7C 0x0420 16)).shadow.position = none
      ∧ Serving (cursorAt.withEntries [localEntry (readOf 0x7C 0x0420 16)]) .shadowRead
        (localEntry (readOf 0x7C 0x0420 16))
      ∧ cursorAt.shadow.selected = some 0 ∧ cursorAt.shadow.position = some (regulator 0).key
      ∧ cursorAt.shadow.list 0 = [] ++ regulator 0 :: [regulator 8] ∧ (regulator 0).data.length ≤ 8 := by
  refine ⟨fun v hv => ⟨served _ _ _ rfl ?_, rfl⟩, by decide +kernel, by decide +kernel,
    served _ _ _ rfl (by decide +kernel), served _ _ _ rfl (by decide +kernel), rfl,
    served _ _ _ rfl (by decide +kernel), by decide +kernel⟩
  revert v hv
  decide +kernel

/-- A store with `n` entries. -/
def filled (n : Nat) : State := withList ((List.range n).map fun i => regulator (BitVec.ofNat 16 i))

theorem test_meets_StoreCasesPlaceAnEntry :
    ((withDomain (.restoring (regulator 0).key false)).dom 0).state.isRestoring = true
      ∧ (((filled 2).dom 0).state.isRestoring = false ∧ holdsKey ((filled 2).shadow.list 0) (regulator 1).key = true)
      ∧ ((filled 2).storePut 0 (regulator 1)).isSome = true
      ∧ (∀ other, holdsKey ((filled 2).shadow.list other) (regulator 1).key = true → other = 0)
      ∧ ((filled 2).storePut 3 (regulator 1)).isSome = true
      ∧ (((filled 2).setDomState 0 (.restoring (regulator 0).key false)).storePut 3 (regulator 1)) = none
      ∧ (∀ other, holdsKey ((filled 192).shadow.list other) (regulator 500).key = false)
      ∧ 192 ≤ (filled 192).shadow.used ∧ (filled 191).shadow.used < 192 := by
  decide +kernel

/-- An edit image. -/
def edit (action domain target hi lo length : Byte) : List Byte :=
  action :: domain :: target :: hi :: lo :: length :: List.replicate 10 (0xEE : Byte)

theorem test_meets_InsertAndDeleteEditTheStore :
    (∀ l ∈ [edit 1 7 0x7F 0xFF 0xF8 8, edit 1 8 0x7F 0xFF 0xF8 8, edit 1 7 0x7C 0 0 1, edit 1 0 0x30 0 0 9,
          edit 1 7 0x7F 0xFF 0xF9 8, edit 1 0 0x01 0 0 1],
        Serving (serving (writing 0x0430 l)) .insert (localEntry (writing 0x0430 l)))
      ∧ ([edit 1 7 0x7F 0xFF 0xF8 8, edit 1 8 0x7F 0xFF 0xF8 8, edit 1 7 0x7C 0 0 1, edit 1 0 0x30 0 0 9,
          edit 1 7 0x7F 0xFF 0xF9 8, edit 1 0 0x01 0 0 1].map fun l =>
            (after (exec .insert (serving (writing 0x0430 l)))).entries.map (·.state)) =
        [[.done .ok []], [.done .invalid []], [.done .invalid []], [.done .invalid []], [.done .invalid []],
          [.done .ok []]]
      ∧ (filled 192).storePut 1 (regulator 500) = none
      ∧ Serving (serving (writing 0x0430 (edit 2 0 0x30 0 1 0))) .delete
        (localEntry (writing 0x0430 (edit 2 0 0x30 0 1 0)))
      ∧ holdsKey ((filled 2).shadow.list 0) { target := 0x30, location := joinBytes 0 1 } = true
      ∧ (List.replicate 10 (0xEE : Byte)).length = 10 := by
  refine ⟨fun l hl => served _ _ _ rfl ?_, by decide +kernel, by decide +kernel, served _ _ _ rfl (by decide +kernel),
    by decide +kernel⟩
  revert l hl
  decide +kernel

/-! ### The segment port -/

/-- No domain has maintenance work and no entry is eligible after reset. -/
theorem reset_noMaintenance : NoMaintenance State.reset := by
  have none : ∀ d, State.reset.maintenanceOf d = none := by decide +kernel
  intro d o c n h
  rw [maintenanceOf_iff, none d] at h
  cases h

theorem empty_noForwarding (s : State) (he : s.entries = []) : NoForwarding s := by
  intro b x r h
  rw [he] at h
  cases b <;> cases h

/-- Two domains CHECKING. -/
def probing : State := (withDomain (.checking 0x21 false)).setDomState 5 (.checking 0x22 false)

theorem test_meets_GrantTakesTheArbitersChoice :
    draining.sport.attempt ≠ none
      ∧ (State.reset.sport.attempt = none ∧ NoForwarding State.reset ∧ NoMaintenance State.reset)
      ∧ (busy.sport.attempt = none ∧ OldestEligible busy (sensorEntry none .queued)
        ∧ (sensorEntry none .queued).snapshot = some (snap none) ∧ NoMaintenance busy)
      ∧ (probing.sport.attempt = none ∧ MaintenanceDue probing 0 (.check 0) (probeCommand 0x21) 1
        ∧ (∀ d' < (0 : DomainId), ∀ o' c' n', ¬MaintenanceDue probing d' o' c' n') ∧ NoForwarding probing) := by
  refine ⟨by decide +kernel, ⟨rfl, empty_noForwarding _ rfl, reset_noMaintenance⟩,
    ⟨rfl, ⟨[], _, rfl, ?_, fun b x r h => (by cases b <;> cases h)⟩, rfl, reset_noMaintenance⟩,
    rfl, .inl ⟨0x21, false, by decide +kernel, .inl ⟨rfl, rfl⟩, rfl, rfl⟩, fun d h => absurd h (Nat.not_lt_zero _),
    empty_noForwarding _ rfl⟩
  rw [← eligible_iff]
  decide +kernel

/-- Both classes have a candidate, the alternation flag naming one, and SDL has been idle for some cycles. -/
def contested (prefer : WorkClass) (idle : Nat) : State :=
  (probing.withEntries [sensorEntry none .queued]).withSport { probing.sport with prefer := prefer, line := .mark idle }

/-- A contested choice goes by the flag, and the attempt enters SEND at once exactly where the idle period in progress
has lasted the recovery gap of 2 character times, 4576 cycles (R129, R131). -/
theorem test_meets_contested_grant :
    (∀ prefer idle, OldestEligible (contested prefer idle) (sensorEntry none .queued)
        ∧ MaintenanceDue (contested prefer idle) 0 (.check 0) (probeCommand 0x21) 1
        ∧ (∀ d' < (0 : DomainId), ∀ o' c' n', ¬MaintenanceDue (contested prefer idle) d' o' c' n'))
      ∧ (contested .forwarding 0).sport.attempt = none
      ∧ State.reset.sport.setting.charCycles 2 = 4576
      ∧ ((after (exec .grant (contested .forwarding 4575))).sport.attempt.map
          fun a => (a.phase, a.exchange.originator)) = some (.gap, .entry 0x05)
      ∧ ((after (exec .grant (contested .maintenance 4576))).sport.attempt.map
          fun a => (a.phase, a.exchange.originator)) = some (.send, .check 0) := by
  refine ⟨fun prefer idle => ⟨⟨[], _, rfl, ?_, fun b x r h => (by cases b <;> cases h)⟩,
    .inl ⟨0x21, false, ?_, .inl ⟨rfl, rfl⟩, rfl, rfl⟩, fun d h => absurd h (Nat.not_lt_zero _)⟩, by decide +kernel⟩
  · exact ⟨rfl, rfl, fun _ h => (by cases h), fun _ h => (List.not_mem_nil h).elim⟩
  · show (probing.dom 0).state = _
    decide +kernel

/-- An exchange with a forwarded READ. -/
def reading : Exchange := exchange (.entry 0x05) (readOf 0x21 0x0140 4) (some 0)

theorem test_meets_AttemptMovesThroughItsPhases :
    InPhase (inAttempt State.reset .gap reading) .gap reading ∧ (inAttempt State.reset .gap reading).sport.line = .mark 0
      ∧ InPhase (inAttempt State.reset .send reading) .send reading
      ∧ InPhase (inAttempt State.reset .wait reading) .wait reading
      ∧ InPhase (inAttempt State.reset .receive reading) .receive reading
      ∧ (inAttempt State.reset .receive reading).sport.line.takesCharacter = true
      ∧ (reading.answer.taken = 0 → (0xB5 : Byte) = 0xB5) ∧ reading.answer.taken ≠ reading.answer.length.toNat + 3
      ∧ reading.answer = { taken := 0, status := 0, length := 0, payload := [], sum := 0 }
      ∧ ∀ n ∈ [0, 32, 33, 255], (List.replicate n (7 : Byte)).length = (BitVec.ofNat 8 n).toNat :=
  ⟨rfl, rfl, rfl, rfl, rfl, rfl, fun _ => rfl, by decide, rfl, by decide +kernel⟩

/-- What an answer's check character decides, by its sum, length and status (R134, R135). -/
theorem test_answerOutcome :
    let x := fun (status length sum : Byte) =>
      { reading with
        answer := { taken := length.toNat + 3, status := status, length := length, payload := [1, 2, 3, 4], sum := sum } }
    answerOutcome (x 0 4 0xF0) 0x10 = .ok [1, 2, 3, 4] ∧ answerOutcome (x 0 4 0xF0) 0x11 = .answerError
      ∧ answerOutcome (x 0 3 0xF0) 0x10 = .answerError ∧ answerOutcome (x 1 0 0xF0) 0x10 = .targetNak
      ∧ answerOutcome (x 1 4 0xF0) 0x10 = .answerError := by
  decide +kernel

/-- A WRITE answered ACK but for its check character. -/
def ackedWrite (o : Originator) (d : Option DomainId) : Exchange :=
  { exchange o (command 0x02 0x21 0x0010 [7]) d with
    answer := { taken := 3, status := 0, length := 0, payload := [], sum := 0 } }

/-- The five commands that end an attempt, each in its phase; an answer's end with each kind of character. -/
theorem test_meets_EndsAttempt :
    EndsAttempt .lineIdleWaitLimit (inAttempt draining .gap reading) reading .lineFault draining.sport.line
      ∧ EndsAttempt .echoMismatch (inAttempt draining .send reading) reading .lineFault .held
      ∧ EndsAttempt .answerTimeout draining reading .noResponse draining.sport.line
      ∧ EndsAttempt .answerGapExpiry
        (inAttempt draining .receive (ackedWrite (.entry 5) (some 0))) (ackedWrite (.entry 5) (some 0)) .answerError
        draining.sport.line
      ∧ EndsAttempt (.answerCharacterReceived 0xB4 .good) (inAttempt draining .receive reading) reading .answerError
        (.mark 0)
      ∧ EndsAttempt (.answerCharacterReceived 0xB5 (.framing .space)) (inAttempt draining .receive reading) reading
        .answerError .held
      ∧ ∀ (s : State) (o : Originator) (d : Option DomainId), s.sport.line = .mark 0 →
        EndsAttempt (.answerCharacterReceived 0 .good) (inAttempt s .receive (ackedWrite o d)) (ackedWrite o d) (.ok [])
          (.mark 0) := by
  refine ⟨.inl ⟨rfl, rfl, rfl, rfl⟩, .inr (.inl ⟨rfl, rfl, rfl, rfl⟩), .inr (.inr (.inl ⟨rfl, rfl, rfl, rfl⟩)),
    .inr (.inr (.inr (.inl ⟨rfl, rfl, by decide, rfl, rfl, rfl⟩))),
    .inr (.inr (.inr (.inr ⟨_, _, rfl, rfl, rfl, rfl, .inr (.inl ⟨rfl, rfl, by decide, rfl⟩)⟩))),
    .inr (.inr (.inr (.inr ⟨_, _, rfl, rfl, rfl, rfl, .inl ⟨by decide, rfl⟩⟩))), fun s o d hl => ?_⟩
  refine .inr (.inr (.inr (.inr ⟨_, _, rfl, rfl, ?_, rfl, .inr (.inr ⟨rfl, rfl, rfl⟩)⟩)))
  show s.sport.line.takesCharacter = true
  rw [hl]; rfl

theorem test_meets_EntryTakesItsOutcome :
    EndsAttempt .answerTimeout draining reading .noResponse draining.sport.line
      ∧ reading.originator = .entry (sensorEntry (some 0) (.active false)).tag
      ∧ (∀ abort, (draining.withEntries [sensorEntry (some 0) (.active abort)]).entry? 0x05 =
        some (sensorEntry (some 0) (.active abort)))
      ∧ AttemptOutcome.noResponse.retryable = true
      ∧ (sensorEntry (some 0) (.active false)).attempts < draining.sport.retryCount.toNat
      ∧ (∀ d, (sensorEntry (some 0) (.active false)).domain? = some d → (draining.dom d).state.inService = true) :=
  ⟨.inr (.inr (.inl ⟨rfl, rfl, rfl, rfl⟩)), rfl, fun _ => rfl, rfl, by decide +kernel, by decide +kernel⟩

theorem test_meets_OrphanEndsWithoutAnEntry :
    EndsAttempt (.answerCharacterReceived 0 .good)
        (inAttempt (withDomain .draining) .receive (ackedWrite .orphan (some 0))) (ackedWrite .orphan (some 0)) (.ok [])
        (.mark 0)
      ∧ (ackedWrite .orphan (some 0)).originator = .orphan :=
  ⟨test_meets_EndsAttempt.2.2.2.2.2.2 _ _ _ rfl, rfl⟩

/-- The exchange of a maintenance attempt waiting for its answer. -/
def maintaining (o : Originator) (n : Nat) : Exchange := { exchange o (probeCommand 0x21) (some 0) with attempt := n }

theorem test_meets_CheckProbeTakesItsOutcome :
    (∀ s n, EndsAttempt .answerTimeout (inAttempt s .wait (maintaining (.check 0) n)) (maintaining (.check 0) n)
        .noResponse s.sport.line)
      ∧ (maintaining (.check 0) 1).originator = .check 0
      ∧ (∀ p, ((withDomain .off).dom 0).state ≠ .checking p true)
      ∧ ((withDomain (.checking 0x21 true)).dom 0).state = .checking 0x21 true
      ∧ (maintaining (.check 0) 1).attempt ≤ State.reset.sport.retryCount.toNat
      ∧ ¬(maintaining (.check 0) 2).attempt ≤ State.reset.sport.retryCount.toNat := by
  refine ⟨fun s n => .inr (.inr (.inl ⟨rfl, rfl, rfl, rfl⟩)), rfl, fun p h => ?_, ?_⟩
  · have : ((withDomain .off).dom 0).state = .off := by decide +kernel
    rw [this] at h
    cases h
  · decide +kernel

/-- Domain 0 RESTORING its first of two entries, under a policy. -/
def replaying (l : List ShadowEntry) (policy : RestorePolicy) : State :=
  (withList l).setDom 0
    { Domain.powerOn with
      config := { DomainConfig.powerOn with policy := policy }, attempt := 1,
      state := .restoring (regulator 0).key true }

theorem test_meets_ReplayWriteTakesItsOutcome :
    (∀ s n, EndsAttempt .answerTimeout (inAttempt s .wait (maintaining (.replay 0 (regulator 0).key) n))
        (maintaining (.replay 0 (regulator 0).key) n) .noResponse s.sport.line)
      ∧ (∀ l ∈ [[regulator 0], [regulator 0, regulator 8]], ∀ p ∈ [RestorePolicy.strict, .lenient],
        ((replaying l p).dom 0).state = .restoring (regulator 0).key true
          ∧ (replaying l p).shadow.list 0 = [] ++ regulator 0 :: l.tail
          ∧ ((replaying l p).dom 0).config.policy = p)
      ∧ (∀ k, ((withDomain .off).dom 0).state ≠ .restoring k true) := by
  refine ⟨fun s n => .inr (.inr (.inl ⟨rfl, rfl, rfl, rfl⟩)), by decide +kernel, fun k h => ?_⟩
  have : ((withDomain .off).dom 0).state = .off := by decide +kernel
  rw [this] at h
  cases h

/-! ### Encodings and laws -/

theorem test_meets_RecordImagesReadBack :
    ConfigOk 0x7C .powerOn ∧ (0x7C : Byte) ≠ 0 ∧ Format.powerOn.divisor ≠ 0 :=
  ⟨⟨by decide, by decide, by decide, by decide, by decide, fun _ h => (by cases h)⟩, by decide, by decide⟩

theorem test_meets_RequestFrameIsDelivered :
    State.reset.uport.rx = .hunt ∧ State.reset.uport.line.takesCharacter = true ∧ (0x0F : Byte).toNat ≤ 0x0F
      ∧ (writing 0 (List.replicate 32 7)).payload.length = requestPayloadCount 0x02 32
      ∧ (writing 0 (List.replicate 32 7)).payload.length ≤ 32
      ∧ (readOf 0x21 0 255).payload.length = requestPayloadCount 0x01 255 := by
  decide +kernel

/-- The laws hold together of the busy part, and it has a next state. -/
theorem test_meets_laws :
    RequestTableOk busy ∧ ParkingOk busy ∧ SegmentOk busy ∧ ShadowOk busy ∧ CursorOk busy ∧ ReplayOk busy
      ∧ NotesOk busy ∧ SettingsOk busy ∧ ReceiverOk busy ∧ EntriesOk busy
      ∧ step busy = .next (after (step busy)) := by
  have off : ∀ d, (State.reset.dom d).state = .off := by decide +kernel
  refine ⟨busy_requestTable, ?_, ?_, ⟨by decide +kernel, by decide +kernel⟩, fun _ h => (by cases h), fun d k g h => ?_,
    fun d n h => ?_, serving_settings (readOf 0x7C 0 1), ⟨rfl, rfl⟩, ?_, rfl⟩
  · have h1 : ∀ e ∈ busy.entries, (e.state.isQueued = true → e.snapshot.isSome = true ∧ busy.domainServes e.domain? = true)
        ∧ (e.state.isActive = true → e.snapshot.isSome = true) ∧ e.state.isParked = false := by decide +kernel
    intro e he
    obtain ⟨a, b, c⟩ := h1 e he
    exact ⟨a, b, fun h => (by rw [c] at h; cases h)⟩
  · have h1 : ∀ e ∈ busy.entries, e.state.isActive = false := by decide +kernel
    exact ⟨fun e he h => (by rw [h1 e he] at h; cases h), fun _ _ h => (by cases h)⟩
  · have h : (State.reset.dom d).state = .restoring k g := h
    rw [off d] at h
    cases h
  · have h : State.reset.sport.notes.get d = some n := h
    have none : ∀ d : DomainId, State.reset.sport.notes.get d = none := by decide +kernel
    rw [none d] at h
    cases h
  · show ∀ e ∈ busy.entries, e.tag.toNat ≤ 0x0F ∧ e.cmd.payload.length = requestPayloadCount e.cmd.op e.cmd.length
    decide +kernel

end Sys2Proof.Tests
end

section
/-! PROOFS. The upstream receiver: one character of URX, then each receiver state, then the statements of R18 to R27. -/
namespace Sys2Proof.Machine

/-! ## One character of URX -/

/-- The state with its URX line replaced: what the receiver starts from once the character has moved the line. -/
def State.onLine (s : State) (line : LineState) : State := s.withUport { s.uport with line := line }

theorem exec_urxCharacterReceived (s : State) (data : Byte) (mark : CharMark) :
    exec (.urxCharacterReceived data mark) s = execUrxCharacterReceived data mark s := rfl

/-- A line that takes characters hands this one to the receiver (R5). -/
theorem exec_urxCharacter_taken {s : State} (data : Byte) (mark : CharMark) (hl : s.uport.line.takesCharacter = true) :
    exec (.urxCharacterReceived data mark) s
      = .next (announce s ((s.onLine (.afterCharacter mark)).receive data mark)) := by
  rw [exec_urxCharacterReceived, execUrxCharacterReceived, if_pos hl, finishEvent_eq]
  rfl

theorem exec_urxCharacter_notTaken {s : State} (data : Byte) (mark : CharMark)
    (hl : s.uport.line.takesCharacter = false) : exec (.urxCharacterReceived data mark) s = .next s := by
  rw [exec_urxCharacterReceived, execUrxCharacterReceived, hl]
  exact finishEvent_self s

/-- Where the receiver changes the U-port alone, so does the event: no class is set and nothing is announced. -/
theorem exec_urxCharacter_withUport {s : State} {data : Byte} {mark : CharMark} {u : UPort}
    (hl : s.uport.line.takesCharacter = true)
    (hr : (s.onLine (.afterCharacter mark)).receive data mark = s.withUport u) :
    exec (.urxCharacterReceived data mark) s = .next (s.withUport u) := by
  rw [exec_urxCharacter_taken data mark hl, hr, announce_same _ _ (State.withUport_events s u)]

/-- Where the receiver discards the frame, the event is a frame discarded (section 2.2). -/
theorem exec_urxCharacter_discards {s : State} {data : Byte} {mark : CharMark} {count : UCounters → UCounters}
    {next : RxState} (hl : s.uport.line.takesCharacter = true)
    (hr : (s.onLine (.afterCharacter mark)).receive data mark
      = (s.onLine (.afterCharacter mark)).discardFrame count next) :
    ∃ t, exec (.urxCharacterReceived data mark) s = .next t
      ∧ FrameDiscarded s t (.afterCharacter mark) (count s.uport.counters) next :=
  ⟨_, exec_urxCharacter_taken data mark hl, hr ▸ frameDiscarded_of_discardFrame s _ _ count next rfl⟩

/-! ## The receiver by its state (R18 to R24) -/

theorem RxState.inFrame_iff (x : RxState) : x.inFrame = true ↔ x = .header ∨ x = .payload ∨ x = .check := by
  cases x <;> decide

theorem State.receive_hunt {s : State} (data : Byte) (mark : CharMark) (h : s.uport.rx = .hunt) :
    s.receive data mark = s.huntCharacter data mark := by
  simp only [State.receive, h]

theorem State.huntCharacter_lead (s : State) : s.huntCharacter 0xD2 .good = s.withUport (s.uport.toState .header) :=
  if_pos ⟨rfl, rfl⟩

theorem State.huntCharacter_stray {s : State} {data : Byte} {mark : CharMark} (h : ¬(mark = .good ∧ data = 0xD2)) :
    s.huntCharacter data mark = s.withUport { s.uport with counters := s.uport.counters.addStray } :=
  if_neg h

theorem State.receive_discard {s : State} (data : Byte) (mark : CharMark) (h : s.uport.rx = .discard) :
    s.receive data mark = s := by
  simp only [State.receive, h]

theorem State.receive_header {s : State} (data : Byte) (h : s.uport.rx = .header) :
    s.receive data .good = s.afterHeader (s.uport.asm.takeHeader data) := by
  simp only [State.receive, h, State.frameCharacter, State.headerCharacter]

theorem State.receive_payload {s : State} (data : Byte) (h : s.uport.rx = .payload) :
    s.receive data .good = s.afterPayload (s.uport.asm.takePayload data) := by
  simp only [State.receive, h, State.frameCharacter, State.payloadCharacter]

theorem State.receive_check_failed {s : State} {data : Byte} (h : s.uport.rx = .check)
    (hsum : s.uport.asm.sum + data ≠ 0) : s.receive data .good = s.discardFrame .addCheck .hunt := by
  simp only [State.receive, h, State.frameCharacter, State.checkCharacter, if_neg hsum]

theorem State.receive_inFrame_parity {s : State} (data : Byte) (h : s.uport.rx.inFrame = true) :
    s.receive data .parity = s.discardFrame .addParity .discard := by
  rcases (RxState.inFrame_iff _).1 h with h | h | h <;> simp only [State.receive, h]

theorem State.receive_inFrame_framing {s : State} (data : Byte) (level : Level) (h : s.uport.rx.inFrame = true) :
    s.receive data (.framing level) = s.discardFrame .addFraming .discard := by
  rcases (RxState.inFrame_iff _).1 h with h | h | h <;> simp only [State.receive, h]

/-! ## The header judged (R12, R19, R23) -/

theorem headerUnusable_iff (header : List Byte) :
    headerUnusable header = true ↔
      0x0F < (header.getD 0 0).toNat ∨ (header.getD 1 0 = 0x02 ∧ 32 < (header.getD 5 0).toNat) := by
  simp [headerUnusable, opWrite]

theorem headerUnusable_eq_false {header : List Byte} (htag : (header.getD 0 0).toNat ≤ 0x0F)
    (hlength : header.getD 1 0 = 0x02 → (header.getD 5 0).toNat ≤ 32) : headerUnusable header = false := by
  rw [← Bool.not_eq_true, headerUnusable_iff]
  rintro (htag' | ⟨hwrite, hlength'⟩)
  · exact absurd htag (Nat.not_le.2 htag')
  · exact absurd (hlength hwrite) (Nat.not_le.2 hlength')

/-- The payload count is the length for a WRITE and 0 otherwise (R12). -/
theorem Assembly.payloadCount_write {a : Assembly} (h : a.header.getD 1 0 = 0x02) :
    a.payloadCount = (a.header.getD 5 0).toNat := if_pos h

theorem Assembly.payloadCount_eq_zero_iff (a : Assembly) :
    a.payloadCount = 0 ↔ (a.header.getD 1 0 = 0x02 → (a.header.getD 5 0).toNat = 0) := by
  by_cases h : a.header.getD 1 0 = 0x02
  · rw [Assembly.payloadCount_write h]
    exact ⟨fun h0 _ => h0, fun h0 => h0 h⟩
  · exact ⟨fun _ h2 => absurd h2 h, fun _ => if_neg h⟩

theorem State.afterHeader_short {s : State} {a : Assembly} (h : a.header.length < 6) :
    s.afterHeader a = s.withUport { s.uport with asm := a } := if_pos h

theorem State.afterHeader_unusable {s : State} {a : Assembly} (h : a.header.length = 6)
    (hu : headerUnusable a.header = true) : s.afterHeader a = s.discardFrame .addFormat .discard := by
  simp [State.afterHeader, h, hu]

theorem State.afterHeader_check {s : State} {a : Assembly} (h : a.header.length = 6)
    (hu : headerUnusable a.header = false) (hp : a.payloadCount = 0) :
    s.afterHeader a = s.withUport { s.uport with asm := a, rx := .check } := by
  simp [State.afterHeader, h, hu, hp]

theorem State.afterHeader_payload {s : State} {a : Assembly} (h : a.header.length = 6)
    (hu : headerUnusable a.header = false) (hp : a.payloadCount ≠ 0) :
    s.afterHeader a = s.withUport { s.uport with asm := a, rx := .payload } := by
  simp [State.afterHeader, h, hu, hp]

/-! ## The payload counted (R20) -/

theorem State.afterPayload_more {s : State} {a : Assembly} (h : a.payload.length < a.payloadCount) :
    s.afterPayload a = s.withUport { s.uport with asm := a } := if_pos h

theorem State.afterPayload_last {s : State} {a : Assembly} (h : a.payload.length = a.payloadCount) :
    s.afterPayload a = s.withUport { s.uport with asm := a, rx := .check } := if_neg h.not_lt

/-! ## Admission's refusals, and what admission leaves of the receiver (R26, R27, R38) -/

theorem State.refuseFrame_empty {s : State} (tag : Byte) (cause : RefusalCause) (h : s.uport.slot = none) :
    s.refuseFrame tag cause = s.withUport { s.uport with slot := some { tag := tag, cause := cause } } := by
  simp only [State.refuseFrame, h]

theorem State.refuseFrame_occupied {s : State} (tag : Byte) (cause : RefusalCause) (h : s.uport.slot ≠ none) :
    s.refuseFrame tag cause =
      (s.withUport { s.uport with
        counters := { s.uport.counters with overrun := satInc s.uport.counters.overrun } }).raise .overrun := by
  obtain ⟨r, hr⟩ := Option.ne_none_iff_exists'.1 h
  simp only [State.refuseFrame, hr]

theorem State.admission_full {s : State} (tag : Byte) (c : Command) (h : 16 ≤ s.entries.length) :
    s.admission tag c = s.refuseFrame tag .busy := if_pos h

theorem State.admission_conflict {s : State} {tag : Byte} (c : Command) (h : s.entries.length < 16)
    (he : ∃ e ∈ s.entries, e.tag = tag) : s.admission tag c = s.refuseFrame tag .tagConflict := by
  have hany : s.entries.any (·.tag == tag) = true := by simpa using he
  rw [State.admission, if_neg (Nat.not_le.2 h), if_pos hany]

/-- A class set beside a new U-port: no other block changes. -/
theorem frame_withUport_raise (s : State) (u : UPort) (c : EventClass) :
    Frame [.uport, .events] s ((s.withUport u).raise c) := by
  intro b hb
  cases b <;> simp_all [State.agrees]

/-- The receiver's part of the U-port: state, frame under assembly, delivered frames counted. -/
def UPort.SameReceiver (u v : UPort) : Prop :=
  v.rx = u.rx ∧ v.asm = u.asm ∧ v.counters.frames = u.counters.frames

theorem State.refuseFrame_sameReceiver (s : State) (tag : Byte) (cause : RefusalCause) :
    s.uport.SameReceiver (s.refuseFrame tag cause).uport := by
  by_cases h : s.uport.slot = none
  · rw [State.refuseFrame_empty tag cause h]
    exact ⟨rfl, rfl, rfl⟩
  · rw [State.refuseFrame_occupied tag cause h]
    exact ⟨rfl, rfl, rfl⟩

/-- Of the five steps of admission the first two may refuse the frame; the others leave the U-port alone. -/
theorem State.admission_sameReceiver (s : State) (tag : Byte) (c : Command) :
    s.uport.SameReceiver (s.admission tag c).uport := by
  have kept : ∀ t : State, t.uport = s.uport → s.uport.SameReceiver t.uport := fun t h => h ▸ ⟨rfl, rfl, rfl⟩
  unfold State.admission
  split_ifs
  · exact s.refuseFrame_sameReceiver tag _
  · exact s.refuseFrame_sameReceiver tag _
  · exact kept _ (by simp)
  · exact kept _ (by simp)
  · exact kept _ (by simp)

/-! ## Gap expiry, the end of DISCARD, and a break (R22, R24, R32, R33) -/

theorem exec_uportGapExpiry_inFrame {s : State} {idle : Nat} (hrx : s.uport.rx.inFrame = true)
    (hl : s.uport.line = .mark idle) :
    exec .uportGapExpiry s = .next (announce s (s.discardFrame .addGap .hunt)) := by
  have hidle : s.uport.line.isIdle = true := by rw [hl]; rfl
  exact congrArg (finishEvent s) (if_pos (by rw [hrx, hidle]; rfl))

theorem exec_uportGapExpiry_notInFrame {s : State} (hrx : s.uport.rx.inFrame = false) :
    exec .uportGapExpiry s = .next s :=
  (congrArg (finishEvent s) (if_neg (by simp [hrx]))).trans (finishEvent_self s)

theorem exec_discardEnd_idle {s : State} (hrx : s.uport.rx = .discard) (hl : s.uport.line.isIdle = true) :
    exec .discardEnd s = .next (s.withUport (s.uport.toState .hunt)) :=
  (congrArg (finishEvent s) (if_pos ⟨hrx, hl⟩)).trans (finishEvent_same _ _ rfl)

theorem exec_discardEnd_notIdle {s : State} (hl : s.uport.line.isIdle = false) : exec .discardEnd s = .next s :=
  (congrArg (finishEvent s) (if_neg (by simp [hl]))).trans (finishEvent_self s)

theorem exec_startEdge_urx (s : State) :
    exec (.startEdge .urx) s = .next (s.withUport { s.uport with line := s.uport.line.startEdge }) :=
  finishEvent_same _ _ rfl

theorem exec_upstreamBreak_held {s : State} (hl : s.uport.line = .held) :
    exec .upstreamBreak s = .next (announce s s.takeBreak) :=
  congrArg (finishEvent s) (if_pos (by rw [hl]; rfl))

/-- The drains a break completes leave the U-port to the break itself. -/
theorem State.takeBreak_uport (s : State) : s.takeBreak.uport = s.uport.takeBreak := by
  obtain ⟨huport, -⟩ := drains_frame allDomains
    (((((s.withUport s.uport.takeBreak).raise .linkError).withEntries []).withReplyQueue []).withSport s.sport.orphan)
  simpa [State.takeBreak, State.drainAll] using huport

theorem exec_breakEnd_broken {s : State} (hl : s.uport.line = .broken) :
    exec .breakEnd s = .next (s.withUport { s.uport.toState .hunt with line := .mark 0 }) :=
  (congrArg (finishEvent s) (if_pos hl)).trans (finishEvent_same _ _ rfl)

/-- A break and its end bring the receiver to HUNT from every state (R32, R33). -/
theorem exec_break_breakEnd_hunt {s : State} (hl : s.uport.line = .held) :
    ∃ t u, exec .upstreamBreak s = .next t ∧ exec .breakEnd t = .next u ∧ u.uport.rx = .hunt := by
  have hbroken : (announce s s.takeBreak).uport.line = .broken := by
    rw [announce_uport, State.takeBreak_uport]; rfl
  exact ⟨_, _, exec_upstreamBreak_held hl, exec_breakEnd_broken hbroken, rfl⟩

/-! ## The statements -/

/-- Settles O6, by the two branches of a character in HUNT. -/
theorem huntTakesLeadOrCountsStray : Obligations.HuntTakesLeadOrCountsStray := by
  intro s data mark hrx
  have hreceive := State.receive_hunt (s := s.onLine (.afterCharacter mark)) data mark hrx
  refine ⟨fun hl => ⟨?_, ?_⟩, exec_uportGapExpiry_notInFrame (by rw [hrx]; rfl), ?_⟩
  · rintro ⟨rfl, rfl⟩
    exact exec_urxCharacter_withUport hl (hreceive.trans (State.huntCharacter_lead _))
  · intro hstray
    exact exec_urxCharacter_withUport hl (hreceive.trans (State.huntCharacter_stray hstray))
  · intro hl
    exact exec_urxCharacter_notTaken data mark (by rw [hl]; rfl)

/-- Settles O10, one way out of DISCARD after another. -/
theorem discardDropsUntilIdleOrBreak : Obligations.DiscardDropsUntilIdleOrBreak := by
  intro s hrx
  refine ⟨fun data mark hl => ?_, fun idle hl => ⟨fun _ => ?_, ?_⟩, exec_discardEnd_notIdle,
    exec_uportGapExpiry_notInFrame (by rw [hrx]; rfl), exec_break_breakEnd_hunt⟩
  · exact exec_urxCharacter_withUport hl (State.receive_discard (s := s.onLine _) data mark hrx)
  · exact exec_discardEnd_idle hrx (by rw [hl]; rfl)
  · rw [exec_startEdge_urx, hl]; rfl

/-- Settles O7: below six characters, then the three verdicts on a header of six. -/
theorem headerIsJudgedAtItsSixthCharacter : Obligations.HeaderIsJudgedAtItsSixthCharacter := by
  intro s data hl hrx
  have hreceive := State.receive_header (s := s.onLine (.afterCharacter .good)) data hrx
  have hlength : (s.uport.asm.takeHeader data).header.length = s.uport.asm.header.length + 1 := by
    simp [Assembly.takeHeader]
  refine ⟨fun hfew => ?_, fun hfive => ?_⟩
  · exact exec_urxCharacter_withUport hl (hreceive.trans (State.afterHeader_short (hlength.trans_lt (by omega))))
  · have hsix := hlength.trans (congrArg (· + 1) hfive)
    refine ⟨fun hbad => ?_, fun htag hwrite hpos hmax => ?_, fun htag hnone => ?_⟩
    · exact exec_urxCharacter_discards hl
        (hreceive.trans (State.afterHeader_unusable hsix ((headerUnusable_iff _).2 hbad)))
    · have hcount : (s.uport.asm.takeHeader data).payloadCount ≠ 0 :=
        (Assembly.payloadCount_write hwrite).trans_ne (Nat.one_le_iff_ne_zero.1 hpos)
      exact exec_urxCharacter_withUport hl
        (hreceive.trans (State.afterHeader_payload hsix (headerUnusable_eq_false htag fun _ => hmax) hcount))
    · have hshort := fun hwrite => (hnone hwrite).trans_le (Nat.zero_le 32)
      exact exec_urxCharacter_withUport hl
        (hreceive.trans (State.afterHeader_check hsix (headerUnusable_eq_false htag hshort)
          ((Assembly.payloadCount_eq_zero_iff _).2 hnone)))

/-- Settles O8: PAYLOAD by the number of characters held, CHECK by the sum. -/
theorem payloadThenCheckCharacterJudged : Obligations.PayloadThenCheckCharacterJudged := by
  intro s data hl
  refine ⟨fun hrx hwrite => ?_, fun hrx => ⟨fun hsum => ?_, fun hsum => ?_⟩⟩
  · have hreceive := State.receive_payload (s := s.onLine (.afterCharacter .good)) data hrx
    have hheld : (s.uport.asm.takePayload data).payload.length = s.uport.asm.payload.length + 1 := by
      simp [Assembly.takePayload]
    have hcount : (s.uport.asm.takePayload data).payloadCount = (s.uport.asm.header.getD 5 0).toNat :=
      Assembly.payloadCount_write hwrite
    refine ⟨fun hmore => ?_, fun hlast => ?_⟩
    · have hmore := hheld.trans_lt (hmore.trans_eq hcount.symm)
      exact exec_urxCharacter_withUport hl (hreceive.trans (State.afterPayload_more hmore))
    · have hlast := hheld.trans (hlast.trans hcount.symm)
      exact exec_urxCharacter_withUport hl (hreceive.trans (State.afterPayload_last hlast))
  · obtain ⟨hhunt, hasm, hframes⟩ := s.delivered.admission_sameReceiver (s.uport.asm.header.getD 0 0)
      (headerCommand s.uport.asm.header s.uport.asm.payload)
    refine ⟨_, deliver_eq s data _ _ ⟨hl, hrx, hsum, rfl, rfl⟩, rfl, ?_, ?_, ?_⟩ <;> rw [announce_uport]
    · exact hhunt
    · exact hasm
    · exact hframes
  · exact exec_urxCharacter_discards hl
      (State.receive_check_failed (s := s.onLine (.afterCharacter .good)) hrx hsum)

/-- Settles O9, cause by cause: parity, framing with either level left behind, gap. -/
theorem errorMarkOrGapDiscardsFrame : Obligations.ErrorMarkOrGapDiscardsFrame := by
  intro s hrx
  have hframe : s.uport.rx.inFrame = true := (RxState.inFrame_iff _).2 hrx
  refine ⟨fun data hl => ⟨?_, fun level => ?_⟩, fun idle hl _ => ?_⟩
  · exact exec_urxCharacter_discards hl (State.receive_inFrame_parity (s := s.onLine _) data hframe)
  · have hdiscards := exec_urxCharacter_discards hl
      (State.receive_inFrame_framing (s := s.onLine (.afterCharacter (.framing level))) data level hframe)
    cases level with
    | mark => exact hdiscards
    | space => exact hdiscards
  · have hsame : s = s.withUport { s.uport with line := .mark idle } := by rw [← hl]; rfl
    exact ⟨_, exec_uportGapExpiry_inFrame hframe hl, frameDiscarded_of_discardFrame s s _ .addGap .hunt hsame⟩

/-- Settles O17: both causes come to one refusal, and the slot decides what becomes of it. -/
theorem refusedFrameTakesSlotOrIsOverrun : Obligations.RefusedFrameTakesSlotOrIsOverrun := by
  intro s data tag c cause hdelivery hcause
  have hrefused : s.delivered.admission tag c = s.delivered.refuseFrame tag cause := by
    rcases hcause with ⟨hfull, rfl⟩ | ⟨hroom, hconflict, rfl⟩
    · exact State.admission_full tag c hfull
    · exact State.admission_conflict c hroom hconflict
  have hexec := (deliver_eq s data tag c hdelivery).trans (congrArg (finishEvent s) hrefused)
  refine ⟨fun hslot => ?_, fun hslot => ⟨_, hexec, ?_⟩⟩
  · rw [hexec, State.refuseFrame_empty (s := s.delivered) tag cause hslot]
    exact finishEvent_same _ _ rfl
  · rw [State.refuseFrame_occupied (s := s.delivered) tag cause hslot]
    refine ⟨frame_announce _ _ _ (by simp) (frame_withUport_raise s _ .overrun),
      (raisedOnly_announce _ _ _).2 rfl, ?_⟩
    rw [noticeAfter_announce, announce_uport]
    rfl

end Sys2Proof.Machine
end

section
/-! PROOFS. The request table: what makes a request malformed, the entries admission makes without a window, a park timer
that runs out, and SEGMENT_RESET over entries, domains and retry notes (R39, R40, R50, R54, R102). -/
namespace Sys2Proof.Machine

/-! ## Malformed requests, one cause after another (R39) -/

theorem knownOp_eq_false_iff (op : Byte) : knownOp op = false ↔ op ≠ 0x01 ∧ op ≠ 0x02 ∧ op ≠ 0x03 := by
  simp [knownOp, opRead, opWrite, opProbe, and_assoc]

theorem byte_eq_zero_iff (b : Byte) : b = 0x00 ↔ b.toNat = 0 := BitVec.toNat_inj.symm

theorem not_targetInRange_iff (target : Byte) :
    ¬(1 ≤ target.toNat ∧ target.toNat ≤ 0x7F) ↔ target = 0x00 ∨ 0x80 ≤ target.toNat := by
  rw [byte_eq_zero_iff]
  omega

theorem lengthSuits_read (length : Byte) :
    lengthSuits 0x01 length = false ↔ length = 0 ∨ 32 < length.toNat := by
  rw [byte_eq_zero_iff]
  simp only [lengthSuits, opRead, if_true, Bool.and_eq_false_iff, decide_eq_false_iff_not]
  omega

theorem lengthSuits_write (length : Byte) : lengthSuits 0x02 length = false ↔ length = 0 := by
  have hread : (0x02 : Byte) ≠ opRead := by decide
  rw [byte_eq_zero_iff]
  simp only [lengthSuits, if_neg hread, opWrite, if_true, decide_eq_false_iff_not]
  omega

theorem lengthSuits_probe (length : Byte) : lengthSuits 0x03 length = false ↔ length ≠ 0 := by
  have hread : (0x03 : Byte) ≠ opRead := by decide
  have hwrite : (0x03 : Byte) ≠ opWrite := by decide
  simp only [lengthSuits, if_neg hread, if_neg hwrite, beq_eq_false_iff_ne]

/-- The length of a request whose operation is one of the three, judged by that operation. -/
theorem lengthSuits_eq_false_iff {op : Byte} (length : Byte) (hop : op = 0x01 ∨ op = 0x02 ∨ op = 0x03) :
    lengthSuits op length = false ↔
      (op = 0x01 ∧ (length = 0 ∨ 32 < length.toNat)) ∨ (op = 0x02 ∧ length = 0) ∨ (op = 0x03 ∧ length ≠ 0) := by
  rcases hop with rfl | rfl | rfl
  · rw [lengthSuits_read]
    simp
  · rw [lengthSuits_write]
    simp
  · rw [lengthSuits_probe]
    simp

/-- An empty range always fits, so the last location may be taken with the truncated subtraction. -/
theorem rangeFits_eq_false_iff (location : Half) (n : Nat) :
    rangeFits location n = false ↔ 0xFFFF < location.toNat + n - 1 := by
  have hlocation := location.isLt
  simp only [rangeFits, decide_eq_false_iff_not]
  omega

theorem malformed_iff_cause (c : Command) :
    malformed c = true ↔
      knownOp c.op = false ∨ ¬(1 ≤ c.target.toNat ∧ c.target.toNat ≤ 0x7F) ∨ lengthSuits c.op c.length = false
        ∨ rangeFits c.location c.length.toNat = false := by
  simp only [malformed, Bool.not_eq_true', Bool.and_eq_false_iff, decide_eq_false_iff_not, not_and_or, or_assoc]

/-- R39's list. -/
theorem malformed_iff (c : Command) :
    malformed c = true ↔
      (c.op ≠ 0x01 ∧ c.op ≠ 0x02 ∧ c.op ≠ 0x03)
        ∨ c.target = 0x00 ∨ 0x80 ≤ c.target.toNat
        ∨ (c.op = 0x01 ∧ (c.length = 0 ∨ 32 < c.length.toNat))
        ∨ (c.op = 0x02 ∧ c.length = 0)
        ∨ (c.op = 0x03 ∧ c.length ≠ 0)
        ∨ 0xFFFF < c.location.toNat + c.length.toNat - 1 := by
  rw [malformed_iff_cause, knownOp_eq_false_iff, not_targetInRange_iff, rangeFits_eq_false_iff]
  by_cases hop : c.op = 0x01 ∨ c.op = 0x02 ∨ c.op = 0x03
  · rw [lengthSuits_eq_false_iff c.length hop]
    simp only [or_assoc]
  · have hunknown : c.op ≠ 0x01 ∧ c.op ≠ 0x02 ∧ c.op ≠ 0x03 := by simpa only [not_or] using hop
    exact iff_of_true (.inl hunknown) (.inl hunknown)

/-! ## Entries made without a window (R39, R40) -/

/-- Past the two refusals of admission the form and the target of the request decide. -/
theorem State.admission_accepted {s : State} {tag : Byte} (c : Command) (hroom : s.entries.length < 16)
    (hnew : ∀ e ∈ s.entries, e.tag ≠ tag) :
    s.admission tag c =
      if malformed c then s.addDone tag c none .badRequest
      else if c.target = s.mgmtAddress then s.addEntry tag c none .waitingLocal
      else s.forward tag c := by
  have hany : ¬s.entries.any (·.tag == tag) = true := by simpa using hnew
  rw [State.admission, if_neg (Nat.not_le.2 hroom), if_neg hany]

theorem State.addDone_eq (s : State) (tag : Byte) (c : Command) (snap : Option Snapshot) (status : Status) :
    s.addDone tag c snap status =
      (s.withEntries (s.entries ++ [newEntry tag c snap (.done status [])])).withReplyQueue (s.replyQueue ++ [tag]) :=
  rfl

theorem State.addEntry_eq (s : State) (tag : Byte) (c : Command) (snap : Option Snapshot) (x : EntryState) :
    s.addEntry tag c snap x = s.withEntries (s.entries ++ [newEntry tag c snap x]) := rfl

/-! ## An entry answered (R37, R43) -/

theorem answered_finishEntry (s : State) (tag : Byte) (status : Status) (reply : List Byte) :
    Answered s (s.finishEntry tag status reply) tag status reply := ⟨rfl, rfl⟩

/-- With one entry to a tag, answering an entry changes it in its place and leaves those before and behind it. -/
theorem entriesAnswered_split {s : State} {before after : List Entry} {e : Entry} (status : Status) (reply : List Byte)
    (hn : (s.entries.map (·.tag)).Nodup) (hs : s.entries = before ++ e :: after) :
    entriesAnswered s e.tag status reply = before ++ { e with state := .done status reply } :: after := by
  rw [hs, List.map_append, List.map_cons, List.nodup_middle, List.nodup_cons, List.mem_append, not_or] at hn
  obtain ⟨⟨hbefore, hafter⟩, -⟩ := hn
  have kept : ∀ l : List Entry, e.tag ∉ l.map (·.tag) →
      l.map (fun x => if x.tag = e.tag then { x with state := .done status reply } else x) = l := by
    intro l hl
    refine (List.map_congr_left fun x hx => if_neg fun htag => hl ?_).trans (List.map_id' l)
    exact List.mem_map.2 ⟨x, hx, htag⟩
  rw [entriesAnswered, hs, List.map_append, List.map_cons, if_pos rfl, kept before hbefore, kept after hafter]

/-- Answering a parked entry takes one from its domain's parked count (R52). -/
theorem parkedCount_answered {s t : State} {e : Entry} {d : DomainId} {status : Status} {reply : List Byte}
    (hn : (s.entries.map (·.tag)).Nodup) (he : e ∈ s.entries) (hp : e.state.isParked = true) (hd : e.domain? = some d)
    (ht : Answered s t e.tag status reply) : t.parkedCount d + 1 = s.parkedCount d := by
  obtain ⟨before, after, hs⟩ := List.append_of_mem he
  obtain ⟨hentries, -⟩ := ht
  rw [State.parkedCount, State.parkedCount, hentries, entriesAnswered_split status reply hn hs, hs, List.filter_append,
    List.filter_append, List.filter_cons_of_neg (by simp [EntryState.isParked]),
    List.filter_cons_of_pos (by simp [hp, hd]), List.length_append, List.length_append, List.length_cons, add_assoc]

/-! ## The park timer (R50) -/

theorem exec_parkTimerExpiry_parked {s : State} {e : Entry} (hfind : s.entry? e.tag = some e)
    (hp : e.state.isParked = true) :
    exec (.parkTimerExpiry e.tag) s = .next (announce s ((s.finishEntry e.tag .retry []).raise .parkExpired)) := by
  show execParkTimerExpiry e.tag s = _
  simp only [execParkTimerExpiry, hfind, if_pos hp, finishEvent_eq]

/-! ## SEGMENT_RESET (R54, R55, R102) -/

/-- What SEGMENT_RESET leaves before its own entry is answered. -/
def State.segmentReset (s : State) (own : Byte) : State :=
  let t := s.finishWhere (Entry.resetAborts own) .aborted
  ((t.withEntries (t.entries.map Entry.markAbort)).withDomains (tabulate 8 fun d => (s.dom d).segmentReset)).withSport
    { s.sport with notes := Vector.replicate 8 none }

theorem serveSegmentReset_eq (own : Byte) (c : Command) (s : State) :
    serveSegmentReset own c s = .ok (s.segmentReset own) [] := rfl

/-- SEGMENT_RESET sets no class, so its event announces nothing (R152). -/
theorem exec_segmentReset {s : State} {e : Entry} (h : Serving s .segmentReset e) :
    exec .segmentReset s = .next ((s.segmentReset e.tag).finishEntry e.tag .ok []) := by
  show finishEvent s (s.serve .segmentReset serveSegmentReset) = _
  rw [serve_eq s .segmentReset e serveSegmentReset h, serveSegmentReset_eq]
  exact finishEvent_same _ _ (by simp [State.conclude, State.segmentReset])

/-- An entry that waits is not DONE, so no DONE entry is aborted (R43). -/
theorem Entry.resetAborts_and_not_done (own : Byte) (x : Entry) :
    (x.resetAborts own && !x.state.isDone) = x.resetAborts own := by
  cases h : x.state <;>
    simp [Entry.resetAborts, EntryState.isQueued, EntryState.isParked, EntryState.isLocal, EntryState.isDone, h]

/-- The abort mark reaches ACTIVE entries alone (R55). -/
theorem Entry.markAbort_eq (x : Entry) :
    x.markAbort = if x.state.isActive then { x with state := .active true } else x := by
  cases h : x.state <;> simp [Entry.markAbort, EntryState.isActive, h]

/-- An entry under SEGMENT_RESET, its own not yet answered: aborted, marked, or as it was. -/
def Entry.underReset (own : Byte) (x : Entry) : Entry :=
  if x.resetAborts own then { x with state := .done .aborted [] }
  else if x.state.isActive then { x with state := .active true }
  else x

theorem Entry.underReset_changesState (own : Byte) (x : Entry) : ∃ y, x.underReset own = { x with state := y } := by
  unfold Entry.underReset
  split_ifs
  · exact ⟨_, rfl⟩
  · exact ⟨_, rfl⟩
  · exact ⟨x.state, rfl⟩

/-- The tag stays, and an answer over what the reset did to the state leaves no trace of it. -/
theorem Entry.answer_underReset (own : Byte) (x : Entry) (y : EntryState) :
    (if (x.underReset own).tag = own then { x.underReset own with state := y } else x.underReset own) =
      if x.tag = own then { x with state := y } else x.underReset own := by
  obtain ⟨z, hz⟩ := x.underReset_changesState own
  rw [hz]

/-- An aborted entry is DONE, so no entry is both aborted and marked. -/
theorem Entry.markAbort_aborted (own : Byte) (x : Entry) :
    (if x.resetAborts own then { x with state := .done .aborted [] } else x).markAbort = x.underReset own := by
  unfold Entry.underReset
  split
  · rfl
  · exact x.markAbort_eq

theorem State.segmentReset_entries (s : State) (own : Byte) :
    (s.segmentReset own).entries = s.entries.map (·.underReset own) := by
  simp [State.segmentReset, State.finishWhere, Entry.resetAborts_and_not_done, Entry.markAbort_aborted]

theorem State.segmentReset_replyQueue (s : State) (own : Byte) :
    (s.segmentReset own).replyQueue = s.replyQueue ++ (s.entries.filter (·.resetAborts own)).map (·.tag) := by
  simp [State.segmentReset, State.finishWhere, Entry.resetAborts_and_not_done]

theorem State.dom_segmentReset (s : State) (own : Byte) (d : DomainId) :
    (s.segmentReset own).dom d = (s.dom d).segmentReset := by
  simp [State.segmentReset]

theorem State.segmentReset_sport (s : State) (own : Byte) :
    (s.segmentReset own).sport = { s.sport with notes := Vector.replicate 8 none } := rfl

theorem frame_segmentReset (s : State) (own : Byte) :
    Frame [.entries, .replyQueue, .domains, .sport] s ((s.segmentReset own).finishEntry own .ok []) := by
  intro b hb
  cases b <;> simp_all [State.agrees, State.segmentReset]

/-! ## The statements -/

/-- Settles O18: R39's list, then admission's third and fourth step. -/
theorem malformedAndManagementRequests : Obligations.MalformedAndManagementRequests := by
  refine ⟨malformed_iff, fun s data tag c hdelivery hroom hnew => ?_⟩
  have hadmission := State.admission_accepted (s := s.delivered) c hroom hnew
  rw [deliver_eq s data tag c hdelivery, hadmission]
  refine ⟨fun hbad => ?_, fun hgood hlocal => ?_⟩
  · rw [if_pos hbad, State.addDone_eq]
    exact finishEvent_same _ _ (by simp)
  · have hmgmt : c.target = s.delivered.mgmtAddress := hlocal
    rw [hgood, if_neg Bool.false_ne_true, if_pos hmgmt, State.addEntry_eq]
    exact finishEvent_same _ _ (by simp)

/-- Settles O22: the entry is found by its tag, and answering it takes one from the parked count. -/
theorem parkTimerExpiryAnswersRetry : Obligations.ParkTimerExpiryAnswersRetry := by
  intro s e d hn he hparked hd
  have hp : e.state.isParked = true := by rw [hparked]; rfl
  have hanswered : Answered s (announce s ((s.finishEntry e.tag .retry []).raise .parkExpired)) e.tag .retry [] := by
    simpa [Answered] using answered_finishEntry s e.tag .retry []
  refine ⟨_, exec_parkTimerExpiry_parked (entry?_of_mem s e hn he) hp, hanswered, ?_, ?_, ?_,
    parkedCount_answered hn he hp hd hanswered⟩
  · rw [raisedOnly_announce]
    simp [RaisedOnly, State.raise]
  · exact uportKept_announce _ _ (by simp)
  · refine frame_announce _ _ _ (by simp) fun b hb => ?_
    cases b <;> simp_all [State.agrees]

/-- Settles O41: the reset of every entry, domain and note, then the answer to its own entry. -/
theorem segmentResetAbortsAndPowersDown : Obligations.SegmentResetAbortsAndPowersDown := by
  intro s e hserving
  obtain ⟨hentries, hqueue⟩ := answered_finishEntry (s.segmentReset e.tag) e.tag .ok []
  refine ⟨_, exec_segmentReset hserving, frame_segmentReset s e.tag, ?_, ?_, fun d => ?_,
    ⟨Vector.replicate 8 none, ?_, get_replicate none⟩⟩
  · rw [hentries, entriesAnswered, State.segmentReset_entries, List.map_map]
    exact List.map_congr_left fun x _ => x.answer_underReset e.tag (.done .ok [])
  · rw [hqueue, State.segmentReset_replyQueue]
    rfl
  · rw [State.dom_finishEntry, State.dom_segmentReset]
    rfl
  · rw [← State.segmentReset_sport s e.tag]
    simp

end Sys2Proof.Machine
end

section
/-! PROOFS. The window table: which requests a window covers, which window is matched, and a WRITE in the window region
judged whole on the records as they would stand (R59 to R62, R69, R71, R169). -/
namespace Sys2Proof.Machine

/-! ## What a window covers (R59 to R61) -/

/-- The set of targets, bit by bit: a bit of the mask at 0 makes the target's bit the base's (R59). -/
theorem Window.coversTarget_iff (w : Window) {target : Byte} (h : target.toNat ≤ 0x7F) :
    w.coversTarget target = true ↔
      ∀ i < 7, w.targetMask.getLsbD i = false → target.getLsbD i = w.targetBase.getLsbD i := by
  have hbits : ((target.setWidth 7 ^^^ w.targetBase) &&& ~~~w.targetMask) = 0 ↔
      ∀ i < 7, ((target.getLsbD i ^^ w.targetBase.getLsbD i) && !w.targetMask.getLsbD i) = false := by
    refine ⟨fun hzero i hi => ?_, fun hall => BitVec.eq_of_getLsbD_eq fun i hi => ?_⟩
    · simpa [hi] using congrArg (·.getLsbD i) hzero
    · simpa [hi] using hall i hi
  simp only [Window.coversTarget, h, decide_true, Bool.true_and, beq_iff_eq, hbits]
  refine forall₂_congr fun i _ => ?_
  cases w.targetMask.getLsbD i <;> simp

/-- The aligned block begins at the base with its low bits taken as 0 (R60). -/
theorem Window.firstLocation_eq (w : Window) :
    w.firstLocation = w.locationBase.toNat - w.locationBase.toNat % 2 ^ w.sizeCode.val :=
  Nat.div_mul_self_eq_mod_sub_self

/-- A well-formed request has a target of seven bits, and a PROBE has length 0 (R39). -/
theorem wellFormed_target_and_probe {c : Command} (h : malformed c = false) :
    c.target.toNat ≤ 0x7F ∧ (c.op = 0x03 → c.length = 0) := by
  have hnot := (malformed_iff c).not.1 (by simp [h])
  simp only [not_or, not_and, not_not] at hnot
  obtain ⟨-, -, htarget, -, -, hprobe, -⟩ := hnot
  exact ⟨by omega, hprobe⟩

/-- The range of a PROBE is its location alone, that of a READ or WRITE its length (R61). -/
theorem Command.lastLocation_eq {c : Command} (h : c.op = 0x03 → c.length = 0) :
    c.lastLocation = c.location.toNat + (if c.op = 0x03 then 0 else c.length.toNat - 1) := by
  unfold Command.lastLocation
  split
  next hprobe => simp [h hprobe]
  next => rfl

theorem Window.covers_iff (w : Window) (c : Command) :
    w.covers c = true ↔
      w.valid = true ∧ w.coversTarget c.target = true ∧ w.firstLocation ≤ c.location.toNat
        ∧ c.lastLocation ≤ w.lastLocation := by
  simp [Window.covers, and_assoc]

/-! ## The matched window (R62) -/

theorem State.matchedWindow_eq_find? (s : State) (c : Command) :
    s.matchedWindow c = Fin.find? fun i => (s.windows.get i).covers c :=
  Fin.find?_eq_find?_finRange.symm

/-! ## A window record and its image (R57, R69, R169) -/

theorem boolByte_getElem (b : Bool) (i : Nat) (h : i < 8) : (boolByte b)[i] = (b && decide (i = 0)) := by
  cases b
  · simp [boolByte]
  · simp [boolByte, BitVec.getElem_one]

theorem ActivityClass.ofCode_eq_some_iff (b : Byte) (cls : ActivityClass) :
    ActivityClass.ofCode b = some cls ↔ b = cls.code := by
  constructor
  · intro h
    unfold ActivityClass.ofCode at h
    split_ifs at h with h0 h1 h2 <;> cases h <;> assumption
  · rintro rfl
    cases cls <;> rfl

theorem byteDomain_eq_some_iff (b : Byte) (d : Option DomainId) : byteDomain b = some d ↔ b = domainByte d := by
  constructor
  · intro h
    unfold byteDomain at h
    split_ifs at h with hnone hlow
    · cases h
      exact hnone
    · cases h
      show b = BitVec.ofNat 8 b.toNat
      simp
  · rintro rfl
    revert d
    decide

theorem byteDomain_accepts_iff (b : Byte) : (∃ d, byteDomain b = some d) ↔ b.toNat ≤ 7 ∨ b = 0xFF := by
  unfold byteDomain
  split_ifs with hnone hlow
  · simp [hnone]
  · simp [Nat.le_of_lt_succ hlow]
  · exact iff_of_false (by simp) (not_or.2 ⟨by omega, hnone⟩)

/-- The top two bits of a byte are the code of a class, unless both are set. -/
theorem ActivityClass.ofCode_top_accepts_iff (b : Byte) :
    (∃ cls, ActivityClass.ofCode (b >>> 6) = some cls) ↔ b >>> 6 ≠ 3 := by
  have hlow : (b >>> 6).toNat < 4 := by
    have := b.isLt
    rw [BitVec.toNat_ushiftRight, Nat.shiftRight_eq_div_pow]
    omega
  generalize b >>> 6 = top at *
  unfold ActivityClass.ofCode
  split_ifs with h0 h1 h2
  · simp [h0]
  · simp [h1]
  · simp [h2]
  · exact iff_of_false (by simp) (not_not.2 (by bv_omega))

/-- R69 on the bytes of one record. -/
def WindowBytesOk (b : List Byte) : Prop :=
  b.getD 0 0 >>> 6 ≠ 3 ∧ ((b.getD 1 0).toNat ≤ 7 ∨ b.getD 1 0 = 0xFF) ∧ (b.getD 2 0).toNat ≤ 0x7F
    ∧ (b.getD 3 0).toNat ≤ 0x7F ∧ (b.getD 4 0).toNat ≤ 16

/-- Bytes that fail R69 are no record. -/
theorem Window.ofImage_eq_none {b : List Byte} (h : ¬WindowBytesOk b) : Window.ofImage b = none := by
  simp only [Window.ofImage]
  split
  next cls domain hcls hdomain =>
    have hclsOk := (ActivityClass.ofCode_top_accepts_iff _).1 ⟨cls, hcls⟩
    have hdomainOk := (byteDomain_accepts_iff _).1 ⟨domain, hdomain⟩
    exact dif_neg fun ⟨hbase, hmask, hsize⟩ => h ⟨hclsOk, hdomainOk, hbase, hmask, Nat.le_of_lt_succ hsize⟩
  next => rfl

/-- The first byte of an image: a mark in each of bits 0 to 5, the class in the two above (R169). -/
theorem firstByte_of_bits (b : Byte) :
    boolByte (b.getLsbD 0) ||| (boolByte (b.getLsbD 1) <<< 1) ||| (boolByte (b.getLsbD 2) <<< 2)
      ||| (boolByte (b.getLsbD 3) <<< 3) ||| (boolByte (b.getLsbD 4) <<< 4) ||| (boolByte (b.getLsbD 5) <<< 5)
      ||| ((b >>> 6) <<< 6) = b := by
  apply BitVec.eq_of_getLsbD_eq
  intro i hi
  interval_cases i <;> simp [boolByte_getElem]

/-- Bytes that pass R69 are a record whose image they are, byte 7 reading 0 (R169). -/
theorem Window.ofImage_of_ok {b : List Byte} (h : WindowBytesOk b) :
    ∃ w, Window.ofImage b = some w
      ∧ w.image = [b.getD 0 0, b.getD 1 0, b.getD 2 0, b.getD 3 0, b.getD 4 0, b.getD 5 0, b.getD 6 0, 0] := by
  obtain ⟨hclsOk, hdomainOk, hbase, hmask, hsize⟩ := h
  obtain ⟨cls, hcls⟩ := (ActivityClass.ofCode_top_accepts_iff _).2 hclsOk
  obtain ⟨domain, hdomain⟩ := (byteDomain_accepts_iff _).2 hdomainOk
  have hcode := (ActivityClass.ofCode_eq_some_iff _ cls).1 hcls
  have hdomainByte := (byteDomain_eq_some_iff _ domain).1 hdomain
  have seven : ∀ x : Byte, x.toNat ≤ 0x7F → (x.setWidth 7).setWidth 8 = x := fun x hx => by bv_omega
  simp only [Window.ofImage, hcls, hdomain]
  refine ⟨_, dif_pos ⟨hbase, hmask, Nat.lt_succ_of_le hsize⟩, ?_⟩
  simp only [Window.image, Window.flags, ← hcode, firstByte_of_bits, ← hdomainByte, seven _ hbase, seven _ hmask,
    BitVec.ofNat_toNat, BitVec.setWidth_eq, hiByte_join, loByte_join]

/-- The six marks, each in its own bit (R169). -/
theorem Window.flags_bits (w : Window) :
    w.flags[0] = w.valid ∧ w.flags[1] = w.permitsRead ∧ w.flags[2] = w.permitsWrite ∧ w.flags[3] = w.permitsProbe
      ∧ w.flags[4] = w.shadow ∧ w.flags[5] = w.event := by
  simp [Window.flags, boolByte_getElem]

/-- The class stands above the six marks (R169). -/
theorem Window.firstByte_top (w : Window) : (w.flags ||| (w.cls.code <<< 6)) >>> 6 = w.cls.code := by
  have hcode : (w.cls.code <<< 6) >>> 6 = w.cls.code := by cases w.cls <;> rfl
  have hflags : w.flags >>> 6 = 0 := by
    apply BitVec.eq_of_getLsbD_eq
    intro i hi
    interval_cases i <;> simp [Window.flags, boolByte_getElem]
  rw [BitVec.ushiftRight_or_distrib, hflags, hcode]
  exact BitVec.zero_or

/-- A record reads back from its image. -/
theorem Window.ofImage_image (w : Window) : Window.ofImage w.image = some w := by
  have hcls : ActivityClass.ofCode ((w.flags ||| (w.cls.code <<< 6)) >>> 6) = some w.cls :=
    (ActivityClass.ofCode_eq_some_iff _ _).2 w.firstByte_top
  have hdomain : byteDomain (domainByte w.domain) = some w.domain := (byteDomain_eq_some_iff _ _).2 rfl
  have hsize : w.sizeCode.val % 256 = w.sizeCode.val := by omega
  have seven : ∀ x : BitVec 7, x.toNat % 256 ≤ 127 := fun x => by bv_omega
  obtain ⟨hvalid, hread, hwrite, hprobe, hshadow, hevent⟩ := w.flags_bits
  simp [Window.ofImage, Window.image, hcls, hdomain, hsize, seven, joinBytes_hi_lo, hvalid, hread, hwrite, hprobe,
    hshadow, hevent]

/-! ## A WRITE in the window region (R69, R71) -/

/-- The bytes of a window record as they would stand after a WRITE (R69). -/
def State.windowBytes (s : State) (c : Command) (i : Fin 32) : List Byte :=
  overlay (0x0100 + 8 * i.val) (s.windows.get i).image c.location.toNat c.payload

/-- Touched or not, a record is judged on its bytes as they would stand. -/
theorem State.rewrittenWindow_eq (s : State) (c : Command) (i : Fin 32) :
    rewritten (0x0100 + 8 * i.val) (s.windows.get i).image Window.ofImage (s.windows.get i) c.location.toNat c.payload
      = Window.ofImage (s.windowBytes c i) :=
  rewritten_eq _ _ _ _ _ _ (s.windows.get i).ofImage_image

/-- Where every record passes, all of them take their bytes (R69). -/
theorem writeWindows_ok (tag : Byte) {c : Command} {s : State} (h : ∀ i, WindowBytesOk (s.windowBytes c i)) :
    ∃ ws, writeWindows tag c s = .ok (s.withWindows ws) []
      ∧ ∀ i, let b := fun k => (s.windowBytes c i).getD k 0
        (ws.get i).image = [b 0, b 1, b 2, b 3, b 4, b 5, b 6, 0] := by
  choose w hread himage using fun i => Window.ofImage_of_ok (h i)
  refine ⟨tabulate 32 w, ?_, fun i => by rw [get_tabulate]; exact himage i⟩
  have hjudged := (judgeAll_some (fun i => Window.ofImage (s.windowBytes c i)) (tabulate 32 w)).2 fun i => by
    rw [get_tabulate]; exact hread i
  unfold writeWindows
  simp only [s.rewrittenWindow_eq, hjudged]

/-- Where one record fails, the whole WRITE does (R69). -/
theorem writeWindows_invalid (tag : Byte) {c : Command} {s : State} (h : ¬∀ i, WindowBytesOk (s.windowBytes c i)) :
    writeWindows tag c s = .invalid := by
  obtain ⟨i, hi⟩ := not_forall.1 h
  have hjudged := (judgeAll_none fun i => Window.ofImage (s.windowBytes c i)).2 ⟨i, Window.ofImage_eq_none hi⟩
  unfold writeWindows
  simp only [s.rewrittenWindow_eq, hjudged]

theorem exec_windowWrite {s : State} {e : Entry} (h : Serving s .windowWrite e) :
    exec .windowWrite s = .next (announce s (s.conclude e.tag (writeWindows e.tag e.cmd s))) := by
  show finishEvent s (s.serve .windowWrite writeWindows) = _
  rw [serve_eq s .windowWrite e writeWindows h, finishEvent_eq]

/-- New window records and an entry answered: hit counters and every other block stay, and no class is set. -/
theorem frame_windowsAnswered (s : State) (ws : Vector Window 32) (tag : Byte) :
    Frame [.entries, .replyQueue, .windows] s (announce s ((s.withWindows ws).finishEntry tag .ok [])) := by
  rw [announce_same _ _ (by simp)]
  intro b hb
  cases b <;> simp_all [State.agrees]

/-! ## The statements -/

/-- Settles O19: the target set and the block of one window, then the search in the order of index. -/
theorem windowsCoverAndMatch : Obligations.WindowsCoverAndMatch := by
  refine ⟨fun w c hgood => ?_, fun s c => ⟨fun i => ?_, ?_⟩⟩
  · obtain ⟨htarget, hprobe⟩ := wellFormed_target_and_probe hgood
    rw [w.covers_iff, w.coversTarget_iff htarget, Command.lastLocation_eq hprobe, Window.lastLocation,
      w.firstLocation_eq]
  · rw [s.matchedWindow_eq_find?, Fin.find?_eq_some_iff]
  · rw [s.matchedWindow_eq_find?, Fin.find?_eq_none_iff]

/-- Settles O36: the records judged together, then the entry answered OK or INVALID. -/
theorem windowWritesAreJudgedWhole : Obligations.WindowWritesAreJudgedWhole := by
  intro s e hserving
  refine ⟨fun hok => ?_, fun hbad => ?_⟩
  · obtain ⟨ws, hwrite, himage⟩ := writeWindows_ok e.tag (c := e.cmd) hok
    refine ⟨_, exec_windowWrite hserving, ?_⟩
    rw [hwrite]
    refine ⟨answered_ok s _ e.tag [] rfl rfl, frame_windowsAnswered s ws e.tag, fun i => ?_⟩
    rw [announce_windows]
    exact himage i
  · refine ⟨_, exec_windowWrite hserving, ?_⟩
    rw [writeWindows_invalid e.tag hbad]
    exact notServed_invalid s e.tag

end Sys2Proof.Machine
end

section
/-! PROOFS. The domain controller by the domain's state: what an arrival makes and takes (R79), what a settle expiry
decides (R87), and the four domain commands (R96 to R98, R121). -/
namespace Sys2Proof.Machine

/-! ## The groups of domain states -/

theorem DomState.takesActivity_iff (x : DomState) :
    x.takesActivity = true ↔ (∃ timer, x = .on timer) ∨ ∃ timer, x = .warning timer := by
  cases x <;> simp [DomState.takesActivity]

theorem DomState.inAttempt_iff (x : DomState) :
    x.inAttempt = true ↔ (∃ timer, x = .settling timer) ∨ (∃ target granted, x = .checking target granted)
      ∨ ∃ key granted, x = .restoring key granted := by
  cases x <;> simp [DomState.inAttempt]

/-- Activity acts on no domain out of service (R81). -/
theorem Domain.active_of_not_takesActivity {x : Domain} (h : x.state.takesActivity = false) : x.active = x :=
  if_neg (by simp [h])

/-! ## One domain replaced -/

theorem otherDomainsKept_setDom (s : State) (d : DomainId) (x : Domain) : OtherDomainsKept [d] s (s.setDom d x) :=
  fun e he => s.dom_setDom_ne x (by simpa using he)

theorem otherDomainsKept_announce (ds : List DomainId) (s t : State) :
    OtherDomainsKept ds s (announce s t) ↔ OtherDomainsKept ds s t := by
  simp [OtherDomainsKept]

theorem otherDomainsKept_finishEntry (ds : List DomainId) (s t : State) (tag : Byte) (status : Status)
    (reply : List Byte) :
    OtherDomainsKept ds s (t.finishEntry tag status reply) ↔ OtherDomainsKept ds s t := by
  simp [OtherDomainsKept]

/-! ## An arrival (R42, R79) -/

/-- What an arrival makes of its domain (R79, R81, R85, R86). -/
def Domain.arrived (x : Domain) (cls : ActivityClass) : Domain :=
  match cls with
  | .passive => x
  | .keep => x.active
  | .wake =>
    match x.state with
    | .on _ | .warning _ => x.active
    | .draining => if x.config.wakeAllowed then x.willWake else x
    | .cooldown _ => if x.pendingWake || x.config.wakeAllowed then x.willWake else x
    | .off => if x.config.wakeAllowed then x.woken else x
    | .settling _ | .checking _ _ | .restoring _ _ | .fault => x

theorem State.arrivalEffect_arrived (s : State) (cls : ActivityClass) (d : DomainId) :
    s.arrivalEffect cls d = s.setDom d ((s.dom d).arrived cls) :=
  arrivalEffect_eq s cls d

/-- A row of R79's table: the verdict on an arrival at a domain, and the domain after it. -/
def ArrivalRow (cls : ActivityClass) (before : Domain) (v : Verdict) (after : Domain) : Prop :=
  arrivalVerdict cls before = v ∧ before.arrived cls = after

section ArrivalTable
variable {x : Domain} {cls : ActivityClass}

theorem arrivalRow_fault (h : x.state = .fault) : ArrivalRow cls x .domainFault x := by
  refine ⟨by simp [arrivalVerdict, h], ?_⟩
  cases cls with
  | passive => rfl
  | keep => exact Domain.active_of_not_takesActivity (by simp [h, DomState.takesActivity])
  | wake => simp [Domain.arrived, h]

theorem arrivalRow_inService (h : x.state.takesActivity = true) :
    ArrivalRow cls x .queued (if cls = .passive then x else x.active) := by
  rw [DomState.takesActivity_iff] at h
  constructor
  · obtain ⟨_, h⟩ | ⟨_, h⟩ := h <;> simp [arrivalVerdict, h]
  · cases cls with
    | passive => rfl
    | keep => rfl
    | wake => obtain ⟨_, h⟩ | ⟨_, h⟩ := h <;> simp [Domain.arrived, h]

/-- A class that asks for no wake is turned away by a domain that is neither in service nor in FAULT. -/
theorem arrivalRow_notWake (hcls : cls ≠ .wake) (h : x.state.takesActivity = false) (hfault : x.state ≠ .fault) :
    ArrivalRow cls x .domainOff x := by
  constructor
  · cases cls with
    | wake => exact absurd rfl hcls
    | passive | keep =>
      cases hx : x.state with
      | on | warning => simp [hx, DomState.takesActivity] at h
      | fault => exact absurd hx hfault
      | off | cooldown | settling | checking | restoring | draining => simp [arrivalVerdict, hx]
  · cases cls with
    | passive => rfl
    | keep => exact Domain.active_of_not_takesActivity h
    | wake => exact absurd rfl hcls

/-- The wake a WAKE arrival would ask for is already under way. -/
theorem arrivalRow_wake_inAttempt (h : x.state.inAttempt = true) : ArrivalRow .wake x .parked x := by
  obtain ⟨_, h⟩ | ⟨_, _, h⟩ | ⟨_, _, h⟩ := (DomState.inAttempt_iff _).1 h <;>
    simp [ArrivalRow, arrivalVerdict, Domain.arrived, h]

theorem arrivalRow_wake_draining (h : x.state = .draining) :
    (x.config.wakeAllowed = true → ArrivalRow .wake x .parked x.willWake)
      ∧ (x.config.wakeAllowed = false → ArrivalRow .wake x .domainOff x) := by
  constructor <;> intro hallowed <;> simp [ArrivalRow, arrivalVerdict, Domain.arrived, h, hallowed]

theorem arrivalRow_wake_off (h : x.state = .off) :
    (x.config.wakeAllowed = true → ArrivalRow .wake x .parked x.woken)
      ∧ (x.config.wakeAllowed = false → ArrivalRow .wake x .domainOff x) := by
  constructor <;> intro hallowed <;> simp [ArrivalRow, arrivalVerdict, Domain.arrived, h, hallowed]

/-- In COOLDOWN a wake already pending parks the arrival whatever wake allowed holds. -/
theorem arrivalRow_wake_cooldown {timer : Nat} (h : x.state = .cooldown timer) :
    (x.pendingWake = true ∨ x.config.wakeAllowed = true → ArrivalRow .wake x .parked x.willWake)
      ∧ (x.pendingWake = false → x.config.wakeAllowed = false → ArrivalRow .wake x .domainOff x) := by
  constructor
  · intro hwakes
    simp [ArrivalRow, arrivalVerdict, Domain.arrived, h, hwakes]
  · intro hpending hallowed
    simp [ArrivalRow, arrivalVerdict, Domain.arrived, h, hpending, hallowed]

end ArrivalTable

/-! ## The entry an admission makes (R37, R41 to R43) -/

/-- The state a verdict makes an entry in, with the park timer it would be given (R42). -/
def Verdict.makes (v : Verdict) (timer : Nat) : EntryState :=
  match v with
  | .queued => .queued
  | .parked => .parked timer
  | .domainOff => .done .domainOff []
  | .domainFault => .done .domainFault []

/-- A new entry in any state: one made in DONE joins the reply queue (R37, R43). -/
def State.enterTable (s : State) (tag : Byte) (c : Command) (snap : Option Snapshot) (made : EntryState) : State :=
  (s.withEntries (s.entries ++ [newEntry tag c snap made])).withReplyQueue
    (s.replyQueue ++ if made.isDone then [tag] else [])

theorem State.addEntry_enterTable (s : State) (tag : Byte) (c : Command) (snap : Option Snapshot) {made : EntryState}
    (h : made.isDone = false) : s.addEntry tag c snap made = s.enterTable tag c snap made := by
  simp [State.addEntry_eq, State.enterTable, h, State.withEntries, State.withReplyQueue]

theorem State.arrive_eq (s : State) (tag : Byte) (c : Command) (snap : Snapshot) (d : DomainId) :
    s.arrive tag c snap d =
      (s.setDom d ((s.dom d).arrived snap.cls)).enterTable tag c (some snap)
        ((arrivalVerdict snap.cls (s.dom d)).makes s.parkTime) := by
  rw [← s.arrivalEffect_arrived snap.cls d]
  simp only [State.arrive]
  cases arrivalVerdict snap.cls (s.dom d) with
  | queued => exact State.addEntry_enterTable _ tag c _ rfl
  | parked => exact State.addEntry_enterTable _ tag c _ rfl
  | domainOff => rfl
  | domainFault => rfl

/-! ## A permitted request (R41, R65, R67) -/

theorem raisedOnly_countHit (s : State) (i : Fin 32) :
    RaisedOnly s (s.countHit i) (if (s.windows.get i).event then [.windowHit] else []) := by
  cases h : (s.windows.get i).event <;> simp [State.countHit, RaisedOnly, State.raise, h]

/-- A request permitted by window `i` is in the table, made in the state `made`: what its admission does outside the
domains (R43, R58, R64, R65). -/
def PermittedAs (s t : State) (tag : Byte) (c : Command) (i : Fin 32) (made : EntryState) : Prop :=
  Frame [.uport, .entries, .replyQueue, .hits, .domains, .events] s t
    ∧ t.entries = s.entries ++ [newEntry tag c (some ((s.windows.get i).snapshot i)) made]
    ∧ t.replyQueue = s.replyQueue ++ (if made.isDone then [tag] else [])
    ∧ t.hits = s.hits.set i (satInc (s.hits.get i))
    ∧ RaisedOnly s t (if (s.windows.get i).event then [.windowHit] else [])
    ∧ t.uport = { s.delivered.uport with noticePending := noticeAfter s t }

theorem permittedAs_enterTable (s : State) (tag : Byte) (c : Command) (i : Fin 32) (ds : Vector Domain 8)
    (made : EntryState) :
    PermittedAs s
      (announce s
        (((s.delivered.countHit i).withDomains ds).enterTable tag c (some ((s.windows.get i).snapshot i)) made))
      tag c i made := by
  refine ⟨frame_announce _ _ _ (by simp) fun b hb => ?_, by simp [State.enterTable], by simp [State.enterTable], ?_,
    ?_, ?_⟩
  · cases b <;> simp_all [State.agrees, State.enterTable]
  · simp [State.enterTable, countHit_hits]
  · simpa [RaisedOnly, State.enterTable] using raisedOnly_countHit s.delivered i
  · rw [announce_uport, noticeAfter_announce]
    simp [State.enterTable, noticeAfter, State.delivered]

section Permitted
variable {s : State} {data tag : Byte} {c : Command} {i : Fin 32}

theorem exec_permitted_noDomain (hdelivery : AtDelivery s data tag c) (hforwarded : Forwarded s tag c)
    (hmatch : s.matchedWindow c = some i) (hpermits : (s.windows.get i).permits c.op = true)
    (hnone : (s.windows.get i).domain = none) :
    ∃ t, exec (.urxCharacterReceived data .good) s = .next t ∧ PermittedAs s t tag c i .queued
      ∧ t.domains = s.domains := by
  have hdelivered : s.delivered.matchedWindow c = some i := hmatch
  refine ⟨_, ?_, permittedAs_enterTable s tag c i (s.delivered.countHit i).domains .queued, by simp [State.enterTable]⟩
  rw [forward_eq s data tag c hdelivery hforwarded, finishEvent_eq]
  simp only [State.forward, hdelivered, State.delivered_frame, hpermits, if_true, hnone]
  rw [State.addEntry_enterTable _ tag c _ rfl]
  rfl

theorem exec_permitted_domain {d : DomainId} (hdelivery : AtDelivery s data tag c) (hforwarded : Forwarded s tag c)
    (hmatch : s.matchedWindow c = some i) (hpermits : (s.windows.get i).permits c.op = true)
    (hsome : (s.windows.get i).domain = some d) :
    ∃ t, exec (.urxCharacterReceived data .good) s = .next t
      ∧ PermittedAs s t tag c i ((arrivalVerdict (s.windows.get i).cls (s.dom d)).makes (s.parkLimit.toNat * 10))
      ∧ t.domains = s.domains.set d ((s.dom d).arrived (s.windows.get i).cls) := by
  have hdelivered : s.delivered.matchedWindow c = some i := hmatch
  have hpark : (s.delivered.countHit i).parkTime = s.parkLimit.toNat * 10 := by simp [State.parkTime, tens]
  have hdomains : (s.delivered.countHit i).domains = s.domains := by simp
  refine ⟨_, ?_, permittedAs_enterTable s tag c i (s.domains.set d ((s.dom d).arrived (s.windows.get i).cls)) _,
    by simp [State.enterTable]⟩
  rw [forward_eq s data tag c hdelivery hforwarded, finishEvent_eq]
  simp only [State.forward, hdelivered, State.delivered_frame, hpermits, if_true, hsome, State.arrive_eq, hpark,
    State.dom_countHit, State.dom_delivered, State.setDom, hdomains]
  rfl

end Permitted

/-! ## Settle expiry (R87) -/

theorem State.powerGoodLow_iff (s : State) (d : DomainId) :
    s.powerGoodLow d = true ↔ ∃ i, (s.dom d).config.pgInput = some i ∧ (s.pg.get i).level = false := by
  cases h : (s.dom d).config.pgInput <;> simp [State.powerGoodLow, h]

section SettleExpiry
variable {s : State} {d : DomainId} {timer : Nat}

theorem exec_settleExpiry_low (h : (s.dom d).state = .settling timer) (hlow : s.powerGoodLow d = true) :
    exec (.settleExpiry d) s = .next (announce s (finishFaulted s (s.attemptFails d .pgLow))) := by
  show execSettleExpiry d s = _
  simp only [execSettleExpiry, h, hlow, if_true, finishEvent_eq]

theorem exec_settleExpiry_target {target : Byte} (h : (s.dom d).state = .settling timer)
    (hlow : s.powerGoodLow d = false) (htarget : (s.dom d).config.checkTarget = some target) :
    exec (.settleExpiry d) s = .next (s.setDomState d (.checking target false)) := by
  show execSettleExpiry d s = _
  simp only [execSettleExpiry, h, hlow, htarget]
  exact finishEvent_same _ _ (by simp)

theorem exec_settleExpiry_noTarget (h : (s.dom d).state = .settling timer) (hlow : s.powerGoodLow d = false)
    (hnone : (s.dom d).config.checkTarget = none) :
    exec (.settleExpiry d) s = .next (announce s (s.enterRestoring d)) := by
  show execSettleExpiry d s = _
  simp only [execSettleExpiry, h, hlow, hnone]
  rfl

end SettleExpiry

/-- A failed attempt leaves the domain's retry note cleared, whichever way it goes on (R91, R138). -/
theorem State.attemptFails_sport (s : State) (d : DomainId) (cause : FaultCause) :
    (s.attemptFails d cause).sport = { s.sport with notes := s.sport.notes.set d none } := by
  by_cases hagain : (s.dom d).attempt < (s.dom d).config.wakeLimit.toNat
  · rw [attemptFails_again s d cause hagain]
    simp [State.clearNote]
  · rw [attemptFails_last s d cause (Nat.le_of_not_lt hagain)]
    simp [State.clearNote]

theorem attemptFailed_announce (s t : State) (d : DomainId) (cause : FaultCause) :
    AttemptFailed s (announce s t) d cause ↔ AttemptFailed s t d cause := by
  simp [AttemptFailed, otherDomainsKept_announce, raisedOnly_announce, WaitingFaulted]

theorem enteredRestoring_announce (s t : State) (d : DomainId) :
    EnteredRestoring s (announce s t) d ↔ EnteredRestoring s t d := by
  simp [EnteredRestoring, ReachedOn, otherDomainsKept_announce, raisedOnly_announce]

/-! ## A domain command served (R53, R172) -/

/-- The location of a domain command names its domain (R172). -/
theorem Command.domain_eq {c : Command} {d : DomainId} (h : c.location.toNat = 0x0400 + d.val) : c.domain = d := by
  apply Fin.ext
  have hd := d.isLt
  simp only [Command.domain]
  omega

section DomainCommand
variable {s : State} {e : Entry} {d : DomainId}

theorem serve_domainCommand {k : ServeKind} (effect : State → DomainId → Option State) (h : Serving s k e)
    (hd : e.cmd.location.toNat = 0x0400 + d.val) :
    finishEvent s (s.serve k fun _ c t => servedCommand (effect t c.domain))
      = .next (announce s (s.conclude e.tag (servedCommand (effect s d)))) := by
  rw [serve_eq s k e _ h, Command.domain_eq hd, finishEvent_eq]

theorem exec_wake (h : Serving s .wake e) (hd : e.cmd.location.toNat = 0x0400 + d.val) :
    exec .wake s = .next (announce s (s.conclude e.tag (servedCommand (s.wakeCommand d)))) :=
  serve_domainCommand State.wakeCommand h hd

theorem exec_sleep (h : Serving s .sleep e) (hd : e.cmd.location.toNat = 0x0400 + d.val) :
    exec .sleep s = .next (announce s (s.conclude e.tag (servedCommand (s.sleepCommand d)))) :=
  serve_domainCommand State.sleepCommand h hd

theorem exec_clearFault (h : Serving s .clearFault e) (hd : e.cmd.location.toNat = 0x0400 + d.val) :
    exec .clearFault s = .next (announce s (s.conclude e.tag (servedCommand (s.clearFaultCommand d)))) :=
  serve_domainCommand State.clearFaultCommand h hd

theorem exec_clearShadow (h : Serving s .clearShadow e) (hd : e.cmd.location.toNat = 0x0400 + d.val) :
    exec .clearShadow s = .next (announce s (s.conclude e.tag (servedCommand (s.clearShadowCommand d)))) :=
  serve_domainCommand State.clearShadowCommand h hd

end DomainCommand

theorem conclude_servedCommand_some (s t : State) (tag : Byte) :
    s.conclude tag (servedCommand (some t)) = t.finishEntry tag .ok [] := rfl

/-- A command that replaces its domain, answered OK: it sets no class, so its event announces nothing (R152). -/
theorem answered_setDom (s : State) (d : DomainId) (x : Domain) (tag : Byte) :
    let t := announce s ((s.setDom d x).finishEntry tag .ok [])
    Answered s t tag .ok [] ∧ OtherDomainsKept [d] s t ∧ Frame [.entries, .replyQueue, .domains] s t ∧ t.dom d = x := by
  refine ⟨answered_ok s _ tag [] (by simp) (by simp), ?_, ?_, by simp⟩
  · rw [otherDomainsKept_announce, otherDomainsKept_finishEntry]
    exact otherDomainsKept_setDom s d x
  · rw [announce_same _ _ (by simp)]
    intro b hb
    cases b <;> simp_all [State.agrees]

/-! ## WAKE (R96) -/

/-- What the WAKE command makes of a domain outside FAULT (R96). -/
def Domain.wakeCommanded (x : Domain) : Domain :=
  match x.state with
  | .off => x.woken
  | .cooldown _ | .draining => x.willWake
  | .on _ | .warning _ => x.active
  | .settling _ | .checking _ _ | .restoring _ _ | .fault => x

theorem State.wakeCommand_fault {s : State} {d : DomainId} (h : (s.dom d).state = .fault) : s.wakeCommand d = none := by
  simp [State.wakeCommand, h]

theorem State.wakeCommand_served {s : State} {d : DomainId} (h : (s.dom d).state ≠ .fault) :
    s.wakeCommand d = some (s.setDom d (s.dom d).wakeCommanded) := by
  cases hx : (s.dom d).state with
  | off => simp [State.wakeCommand, Domain.wakeCommanded, hx, wakeStart_eq]
  | cooldown | draining => simp [State.wakeCommand, Domain.wakeCommanded, hx, setPendingWake_eq]
  | on | warning => simp [State.wakeCommand, Domain.wakeCommanded, hx, activity_eq]
  | settling | checking | restoring => simp [State.wakeCommand, Domain.wakeCommanded, hx, setDom_dom]
  | fault => exact absurd hx h

theorem Domain.wakeCommanded_off {x : Domain} (h : x.state = .off) : x.wakeCommanded = x.woken := by
  simp [Domain.wakeCommanded, h]

theorem Domain.wakeCommanded_poweringDown {x : Domain} (h : x.state = .draining ∨ ∃ timer, x.state = .cooldown timer) :
    x.wakeCommanded = x.willWake := by
  obtain h | ⟨_, h⟩ := h <;> simp [Domain.wakeCommanded, h]

theorem Domain.wakeCommanded_inService {x : Domain} (h : x.state.takesActivity = true) :
    x.wakeCommanded = x.active := by
  obtain ⟨_, h⟩ | ⟨_, h⟩ := (DomState.takesActivity_iff _).1 h <;> simp [Domain.wakeCommanded, h]

theorem Domain.wakeCommanded_inAttempt {x : Domain} (h : x.state.inAttempt = true) : x.wakeCommanded = x := by
  obtain ⟨_, h⟩ | ⟨_, _, h⟩ | ⟨_, _, h⟩ := (DomState.inAttempt_iff _).1 h <;> simp [Domain.wakeCommanded, h]

/-! ## SLEEP (R97) -/

section Sleep
variable {s : State} {d : DomainId}

theorem State.sleepCommand_inService (h : (s.dom d).state.takesActivity = true) :
    s.sleepCommand d = some (s.enterDraining d) := by
  obtain ⟨_, h⟩ | ⟨_, h⟩ := (DomState.takesActivity_iff _).1 h <;> simp [State.sleepCommand, h]

theorem State.sleepCommand_poweringDown
    (h : (s.dom d).state = .off ∨ (∃ timer, (s.dom d).state = .cooldown timer) ∨ (s.dom d).state = .draining) :
    s.sleepCommand d = some s := by
  obtain h | ⟨_, h⟩ | h := h <;> simp [State.sleepCommand, h]

theorem State.sleepCommand_refused (h : (s.dom d).state.inAttempt = true ∨ (s.dom d).state = .fault) :
    s.sleepCommand d = none := by
  rw [DomState.inAttempt_iff] at h
  obtain (⟨_, h⟩ | ⟨_, _, h⟩ | ⟨_, _, h⟩) | h := h <;> simp [State.sleepCommand, h]

end Sleep

theorem otherDomainsKept_enterDraining (s : State) (d : DomainId) : OtherDomainsKept [d] s (s.enterDraining d) := by
  by_cases hwork : NoWork s d
  · rw [enterDraining_done s d hwork]
    exact otherDomainsKept_setDom (s.raise .domainDown) d _
  · rw [enterDraining_waits s d hwork]
    exact otherDomainsKept_setDom s d _

/-! ## CLEAR_FAULT and CLEAR_SHADOW (R98, R121) -/

section Clear
variable {s : State} {d : DomainId}

theorem State.clearFaultCommand_fault (h : (s.dom d).state = .fault) :
    s.clearFaultCommand d = some (s.setDom d { s.dom d with state := .off, attempt := 0, cause := .none }) := by
  simp [State.clearFaultCommand, h]

theorem State.clearFaultCommand_refused (h : (s.dom d).state ≠ .fault) : s.clearFaultCommand d = none := by
  unfold State.clearFaultCommand
  split
  next hfault => exact absurd hfault h
  all_goals rfl

theorem State.clearShadowCommand_served (h : (s.dom d).state.isRestoring = false) :
    s.clearShadowCommand d = some (s.withShadow (s.shadow.clear d)) := if_neg (by simp [h])

theorem State.clearShadowCommand_refused (h : (s.dom d).state.isRestoring = true) : s.clearShadowCommand d = none :=
  if_pos h

end Clear

/-! ## The statements -/

/-- Settles O21: every permitted request is admitted in one way; what the arrival takes is read off its row of R79's
table. -/
theorem arrivalTableDecidesTheEntry : Obligations.ArrivalTableDecidesTheEntry := by
  intro s data tag c i hdelivery hforwarded hmatch hpermits w snap parked
  obtain hnone | ⟨d, hsome⟩ := Option.eq_none_or_eq_some w.domain
  · obtain ⟨t, hexec, ⟨hframe, hentries, hqueue, hhits, hraised, huport⟩, hdomains⟩ :=
      exec_permitted_noDomain hdelivery hforwarded hmatch hpermits hnone
    refine ⟨t, .queued, hexec, hframe, hentries, hqueue, hhits, hraised, huport, fun _ => ⟨rfl, hdomains⟩, ?_⟩
    intro d hd
    cases hnone.symm.trans hd
  · obtain ⟨t, hexec, ⟨hframe, hentries, hqueue, hhits, hraised, huport⟩, hdomains⟩ :=
      exec_permitted_domain hdelivery hforwarded hmatch hpermits hsome
    refine ⟨t, _, hexec, hframe, hentries, hqueue, hhits, hraised, huport, fun hnone => ?_, fun d' hd => ?_⟩
    · cases hnone.symm.trans hsome
    obtain rfl : d = d' := Option.some.inj (hsome.symm.trans hd)
    intro x
    have hdom : t.dom d = x.arrived w.cls := by
      rw [State.dom, hdomains]
      exact get_set_self _ _ _
    have takes {cls : ActivityClass} {v : Verdict} {y : Domain} (hcls : w.cls = cls) (hrow : ArrivalRow cls x v y) :
        (arrivalVerdict w.cls x).makes (s.parkLimit.toNat * 10) = v.makes (s.parkLimit.toNat * 10) ∧ t.dom d = y := by
      subst hcls
      obtain ⟨hverdict, hafter⟩ := hrow
      exact ⟨congrArg (Verdict.makes · _) hverdict, hdom.trans hafter⟩
    refine ⟨fun e he => ?_, fun h => takes rfl (arrivalRow_fault h), fun h => ?_,
      fun hcls h hfault => takes rfl (arrivalRow_notWake hcls h hfault),
      fun hcls h => takes hcls (arrivalRow_wake_inAttempt h), fun hcls h => ?_, fun hcls h => ?_, fun n hcls h => ?_⟩
    · rw [State.dom, hdomains]
      exact get_set_ne _ _ (by simpa using he)
    · obtain ⟨hmade, hafter⟩ := takes rfl (arrivalRow_inService h)
      exact ⟨hmade, fun hcls => hafter.trans (if_pos hcls), fun hcls => hafter.trans (if_neg hcls)⟩
    · obtain ⟨hallowed, hnot⟩ := arrivalRow_wake_draining h
      exact ⟨fun ha => takes hcls (hallowed ha), fun ha => takes hcls (hnot ha)⟩
    · obtain ⟨hallowed, hnot⟩ := arrivalRow_wake_off h
      exact ⟨fun ha => takes hcls (hallowed ha), fun ha => takes hcls (hnot ha)⟩
    · obtain ⟨hwakes, hnot⟩ := arrivalRow_wake_cooldown h
      exact ⟨fun hw => takes hcls (hwakes hw), fun hp ha => takes hcls (hnot hp ha)⟩

/-- Settles O25, by the three outcomes of a settle expiry. -/
theorem settleExpiryDecidesTheAttempt : Obligations.SettleExpiryDecidesTheAttempt := by
  intro s d hsettling low
  have notLow (h : ¬low) : s.powerGoodLow d = false := Bool.eq_false_iff.2 ((s.powerGoodLow_iff d).not.2 h)
  refine ⟨fun hlow => ?_, fun hlow target htarget => ?_, fun hlow hnone => ?_⟩
  · refine ⟨_, exec_settleExpiry_low hsettling ((s.powerGoodLow_iff d).2 hlow), ?_, ?_, ?_, ?_⟩
    · rw [attemptFailed_announce]
      exact attemptFailed s s d .pgLow (by simp [hsettling]) rfl rfl rfl rfl
    · exact uportKept_announce _ _ (by simp)
    · simp [State.attemptFails_sport]
    · refine frame_announce _ _ _ (by simp) fun b hb => ?_
      cases b <;> simp_all [State.agrees]
  · exact exec_settleExpiry_target hsettling (notLow hlow) htarget
  · refine ⟨_, exec_settleExpiry_noTarget hsettling (notLow hlow) hnone, ?_, ?_, ?_⟩
    · rw [enteredRestoring_announce]
      exact enteredRestoring s s d rfl rfl rfl rfl rfl
    · exact uportKept_announce _ _ (by simp)
    · refine frame_announce _ _ _ (by simp) fun b hb => ?_
      cases b <;> simp_all [State.agrees]

/-- Settles O38, by the rows of R96's table. -/
theorem wakeCommandActsByState : Obligations.WakeCommandActsByState := by
  intro s e d hserving hlocation x
  rw [exec_wake hserving hlocation]
  refine ⟨fun hserved => ⟨_, rfl, ?_⟩, fun hfault => ⟨_, rfl, ?_⟩⟩
  · rw [State.wakeCommand_served hserved, conclude_servedCommand_some]
    obtain ⟨hanswered, hothers, hframe, hdom⟩ := answered_setDom s d x.wakeCommanded e.tag
    exact ⟨hanswered, hothers, hframe, fun h => hdom.trans (Domain.wakeCommanded_off h),
      fun h => hdom.trans (Domain.wakeCommanded_poweringDown h),
      fun h => hdom.trans (Domain.wakeCommanded_inService h), fun h => hdom.trans (Domain.wakeCommanded_inAttempt h)⟩
  · rw [State.wakeCommand_fault hfault]
    exact notServed_refused s e.tag

/-- Settles O39, by the three rows of R97's table; a drain with no work in progress completes in the same event. -/
theorem sleepCommandActsByState : Obligations.SleepCommandActsByState := by
  intro s e d hserving hlocation x
  rw [exec_sleep hserving hlocation]
  refine ⟨fun hservice => ⟨_, rfl, ?_⟩, fun hdown => ⟨_, rfl, ?_⟩, fun hrefused => ⟨_, rfl, ?_⟩⟩
  · rw [State.sleepCommand_inService hservice, conclude_servedCommand_some]
    refine ⟨answered_ok s _ e.tag [] (by simp) (by simp), ?_, uportKept_announce _ _ (by simp), ?_, fun hidle => ?_,
      fun hbusy => ?_⟩
    · rw [otherDomainsKept_announce, otherDomainsKept_finishEntry]
      exact otherDomainsKept_enterDraining s d
    · refine frame_announce _ _ _ (by simp) fun b hb => ?_
      cases b <;> simp_all [State.agrees]
    · rw [enterDraining_done s d hidle]
      simp [x, RaisedOnly, State.raise]
    · rw [enterDraining_waits s d hbusy]
      simp [x, RaisedOnly]
  · rw [State.sleepCommand_poweringDown hdown, conclude_servedCommand_some]
    refine ⟨answered_ok s s e.tag [] rfl rfl, ?_⟩
    rw [announce_same _ _ (by simp)]
    intro b hb
    cases b <;> simp_all [State.agrees]
  · rw [State.sleepCommand_refused hrefused]
    exact notServed_refused s e.tag

/-- Settles O40: each command by the states that take it, then by those that do not. -/
theorem clearFaultAndClearShadow : Obligations.ClearFaultAndClearShadow := by
  intro s e d hlocation x
  refine ⟨fun hserving => ?_, fun hserving => ?_⟩
  · rw [exec_clearFault hserving hlocation]
    refine ⟨fun hfault => ⟨_, rfl, ?_⟩, fun hother => ⟨_, rfl, ?_⟩⟩
    · rw [State.clearFaultCommand_fault hfault, conclude_servedCommand_some]
      exact answered_setDom s d { x with state := .off, attempt := 0, cause := .none } e.tag
    · rw [State.clearFaultCommand_refused hother]
      exact notServed_refused s e.tag
  · rw [exec_clearShadow hserving hlocation]
    refine ⟨fun hother => ⟨_, rfl, ?_⟩, fun hrestoring => ⟨_, rfl, ?_⟩⟩
    · rw [State.clearShadowCommand_served hother, conclude_servedCommand_some, announce_same _ _ (by simp)]
      refine ⟨answered_finishEntry (s.withShadow (s.shadow.clear d)) e.tag .ok [], fun b hb => ?_, ?_⟩
      · cases b <;> simp_all [State.agrees]
      · simp [ShadowStore.clear, ShadowStore.setList]
    · rw [State.clearShadowCommand_refused hrestoring]
      exact notServed_refused s e.tag

end Sys2Proof.Machine
end

section
/-! PROOFS. The shadow store: what a list answers of a key, what each operation over the store leaves of its lists and
its cursor, and where an entry goes by the case it meets (R104, R107 to R109, R123). -/
namespace Sys2Proof.Machine

/-! ## A list and a key (R103, R104) -/

theorem holdsKey_iff (l : List ShadowEntry) (k : Key) : holdsKey l k = true ↔ ∃ y ∈ l, y.key = k := by
  simp [holdsKey]

theorem entryAt_eq_none {l : List ShadowEntry} {k : Key} (h : ∀ y ∈ l, y.key ≠ k) : entryAt l k = none :=
  List.find?_eq_none.2 fun y hy => by simpa using h y hy

theorem entryAt_split {before after : List ShadowEntry} {x : ShadowEntry} (h : ∀ y ∈ before, y.key ≠ x.key) :
    entryAt (before ++ x :: after) x.key = some x :=
  List.find?_eq_some_iff_append.2 ⟨by simp, before, after, rfl, fun y hy => by simpa using h y hy⟩

/-- Entries of other keys ahead of an entry do not decide what follows it. -/
theorem follower_append {before : List ShadowEntry} {k : Key} (l : List ShadowEntry) (h : ∀ y ∈ before, y.key ≠ k) :
    follower k (before ++ l) = follower k l := by
  induction before with
  | nil => rfl
  | cons y rest ih =>
    obtain ⟨hhead, hrest⟩ := List.forall_mem_cons.1 h
    exact (if_neg hhead).trans (ih hrest)

theorem follower_eq_none {l : List ShadowEntry} {k : Key} (h : ∀ y ∈ l, y.key ≠ k) : follower k l = none := by
  simpa [follower] using follower_append [] h

theorem follower_split {before after : List ShadowEntry} {x : ShadowEntry} (h : ∀ y ∈ before, y.key ≠ x.key) :
    follower x.key (before ++ x :: after) = after.head?.map (·.key) :=
  (follower_append _ h).trans (if_pos rfl)

theorem isTail_iff (l : List ShadowEntry) (k : Key) : isTail l k = true ↔ l.getLast?.map (·.key) = some k := by
  simp [isTail]

/-! ## The operations over the store: its lists, its marks and its cursor -/

section Operations
variable (h : ShadowStore) (d e : DomainId) (k : Key) (x : ShadowEntry) (l : List ShadowEntry)

@[simp] theorem ShadowStore.list_setList_self : (h.setList d l).list d = l := get_set_self _ _ _

theorem ShadowStore.list_setList_ne {d e : DomainId} (hne : e ≠ d) : (h.setList d l).list e = h.list e :=
  get_set_ne _ _ hne

@[simp] theorem ShadowStore.setList_incomplete : (h.setList d l).incomplete = h.incomplete := rfl
@[simp] theorem ShadowStore.setList_selected : (h.setList d l).selected = h.selected := rfl
@[simp] theorem ShadowStore.setList_position : (h.setList d l).position = h.position := rfl

/-- A cursor passed over an entry that leaves: of the whole store the position alone may change (R123). -/
theorem ShadowStore.cursorPast_eq :
    h.cursorPast e k =
      { h with
        position := if h.selected = some e ∧ h.position = some k then follower k (h.list e) else h.position } := by
  unfold ShadowStore.cursorPast
  split_ifs <;> rfl

/-- An entry taken from the list of `e`: that list and the position alone change (R109, R120, R123). -/
theorem ShadowStore.remove_eq :
    h.remove e k =
      { h with
        lists := h.lists.set e (dropKey (h.list e) k)
        position := if h.selected = some e ∧ h.position = some k then follower k (h.list e) else h.position } := by
  rw [ShadowStore.remove, ShadowStore.cursorPast_eq]
  rfl

@[simp] theorem ShadowStore.list_remove_self : (h.remove e k).list e = dropKey (h.list e) k := by
  rw [ShadowStore.remove, ShadowStore.list_setList_self]

theorem ShadowStore.list_remove_ne {d e : DomainId} (hne : d ≠ e) : (h.remove e k).list d = h.list d := by
  rw [ShadowStore.remove, ShadowStore.list_setList_ne _ _ hne, ShadowStore.cursorPast_eq]
  rfl

@[simp] theorem ShadowStore.remove_incomplete : (h.remove e k).incomplete = h.incomplete := by
  rw [ShadowStore.remove_eq]

@[simp] theorem ShadowStore.remove_selected : (h.remove e k).selected = h.selected := by
  rw [ShadowStore.remove_eq]

@[simp] theorem ShadowStore.remove_position :
    (h.remove e k).position =
      if h.selected = some e ∧ h.position = some k then follower k (h.list e) else h.position := by
  rw [ShadowStore.remove_eq]

@[simp] theorem ShadowStore.list_append_self : (h.append d x).list d = h.list d ++ [x] :=
  ShadowStore.list_setList_self _ _ _

theorem ShadowStore.list_append_ne {d e : DomainId} (hne : e ≠ d) : (h.append d x).list e = h.list e :=
  ShadowStore.list_setList_ne _ _ hne

@[simp] theorem ShadowStore.append_incomplete : (h.append d x).incomplete = h.incomplete := rfl
@[simp] theorem ShadowStore.append_selected : (h.append d x).selected = h.selected := rfl
@[simp] theorem ShadowStore.append_position : (h.append d x).position = h.position := rfl

/-- Two ways to recapture an entry, one content: it stands at the tail of its list, tail before or not (R108). -/
theorem ShadowStore.list_recapture_self : (h.recapture d x).list d = dropKey (h.list d) x.key ++ [x] := by
  unfold ShadowStore.recapture
  split_ifs <;> simp

theorem ShadowStore.list_recapture_ne {d e : DomainId} (hne : e ≠ d) : (h.recapture d x).list e = h.list e := by
  unfold ShadowStore.recapture
  split_ifs
  · exact ShadowStore.list_setList_ne _ _ hne
  · rw [ShadowStore.list_append_ne _ _ hne, ShadowStore.list_remove_ne _ _ hne]

theorem ShadowStore.recapture_incomplete : (h.recapture d x).incomplete = h.incomplete := by
  unfold ShadowStore.recapture
  split_ifs <;> simp

theorem ShadowStore.recapture_selected : (h.recapture d x).selected = h.selected := by
  unfold ShadowStore.recapture
  split_ifs <;> simp

/-- The cursor of an own entry recaptured: it stays where the entry was the tail already (R108, R123). -/
theorem ShadowStore.recapture_position :
    (h.recapture d x).position =
      if h.selected = some d ∧ h.position = some x.key ∧ (h.list d).getLast?.map (·.key) ≠ some x.key
      then follower x.key (h.list d) else h.position := by
  unfold ShadowStore.recapture
  split_ifs with htail hcursor hcursor
  · exact absurd ((isTail_iff _ _).1 htail) hcursor.2.2
  · rfl
  · simp [hcursor]
  · rw [isTail_iff] at htail
    rw [ShadowStore.append_position, ShadowStore.remove_position, if_neg fun hc => hcursor ⟨hc.1, hc.2, htail⟩]

end Operations

/-! ## The holder of a key, and the pool (R104) -/

/-- A key held by one list alone has that list's domain for holder. -/
theorem ShadowStore.holder_eq_some {h : ShadowStore} {k : Key} {e : DomainId} (he : holdsKey (h.list e) k = true)
    (honly : ∀ other, holdsKey (h.list other) k = true → other = e) : h.holder k = some e := by
  cases hfound : h.holder k with
  | none => exact absurd he (List.find?_eq_none.1 hfound e (mem_allDomains e))
  | some other => rw [honly other (List.find?_some (p := fun d => holdsKey (h.list d) k) hfound)]

theorem ShadowStore.holder_eq_none {h : ShadowStore} {k : Key} (hnew : ∀ d, holdsKey (h.list d) k = false) :
    h.holder k = none :=
  List.find?_eq_none.2 fun d _ => by simp [hnew d]

theorem ShadowStore.hasFreeSlot_iff (h : ShadowStore) : h.hasFreeSlot = true ↔ h.used < 192 := by
  simp [ShadowStore.hasFreeSlot, Config.shadowPool]

/-! ## Where an entry goes, case by case (R107 cases 2 to 7) -/

section Placing
variable {s : State} {d e : DomainId} {x : ShadowEntry}

theorem State.storePut_ownRestoring (h : (s.dom d).state.isRestoring = true) : s.storePut d x = none := by
  simp [State.storePut, State.storeCase, h]

theorem State.storePut_ownList (h : (s.dom d).state.isRestoring = false)
    (hown : holdsKey (s.shadow.list d) x.key = true) : s.storePut d x = some (s.shadow.recapture d x) := by
  simp [State.storePut, State.storeCase, h, hown]

theorem State.storePut_holderRestoring (hown : holdsKey (s.shadow.list d) x.key = false)
    (hholder : s.shadow.holder x.key = some e) (he : (s.dom e).state.isRestoring = true) : s.storePut d x = none := by
  cases h : (s.dom d).state.isRestoring with
  | true => exact State.storePut_ownRestoring h
  | false => simp [State.storePut, State.storeCase, h, hown, hholder, he]

theorem State.storePut_otherList (h : (s.dom d).state.isRestoring = false)
    (hown : holdsKey (s.shadow.list d) x.key = false) (hholder : s.shadow.holder x.key = some e)
    (he : (s.dom e).state.isRestoring = false) :
    s.storePut d x = some ((s.shadow.remove e x.key).append d x) := by
  simp [State.storePut, State.storeCase, h, hown, hholder, he]

theorem State.storePut_newKey (h : (s.dom d).state.isRestoring = false)
    (hnew : ∀ other, holdsKey (s.shadow.list other) x.key = false) (hfree : s.shadow.used < 192) :
    s.storePut d x = some (s.shadow.append d x) := by
  simp [State.storePut, State.storeCase, h, hnew d, ShadowStore.holder_eq_none hnew,
    (ShadowStore.hasFreeSlot_iff _).2 hfree]

theorem State.storePut_poolFull (hnew : ∀ other, holdsKey (s.shadow.list other) x.key = false)
    (hfull : 192 ≤ s.shadow.used) : s.storePut d x = none := by
  have hslot : s.shadow.hasFreeSlot = false :=
    Bool.eq_false_iff.2 ((ShadowStore.hasFreeSlot_iff _).not.2 (Nat.not_lt.2 hfull))
  cases h : (s.dom d).state.isRestoring with
  | true => exact State.storePut_ownRestoring h
  | false => simp [State.storePut, State.storeCase, h, hnew d, ShadowStore.holder_eq_none hnew, hslot]

end Placing

/-! ## The statement -/

/-- Settles O44: the list functions by where the key stands, then the store by the case the entry meets. -/
theorem storeCasesPlaceAnEntry : Obligations.StoreCasesPlaceAnEntry := by
  refine ⟨fun l k => ⟨holdsKey_iff l k, fun habsent => ⟨entryAt_eq_none habsent, follower_eq_none habsent⟩, ?_⟩,
    fun _ => rfl, ?_⟩
  · rintro before y after rfl hbefore rfl
    exact ⟨entryAt_split hbefore, follower_split hbefore⟩
  intro s d x kept
  refine ⟨State.storePut_ownRestoring, fun hd hown => ?_, fun e hne hd he honly => ?_,
    fun hd hnew => ⟨State.storePut_poolFull hnew, fun hfree => ?_⟩⟩
  · exact ⟨_, State.storePut_ownList hd hown, ShadowStore.list_recapture_self _ _ _,
      fun e hne => ShadowStore.list_recapture_ne _ _ hne, ShadowStore.recapture_incomplete _ _ _,
      ShadowStore.recapture_selected _ _ _, ShadowStore.recapture_position _ _ _⟩
  · have hholder := ShadowStore.holder_eq_some he honly
    have hown : holdsKey (s.shadow.list d) x.key = false := Bool.eq_false_iff.2 fun hheld => hne (honly d hheld).symm
    refine ⟨State.storePut_holderRestoring hown hholder, fun hserving =>
      ⟨_, State.storePut_otherList hd hown hholder hserving, ?_, ?_, fun other hd' he' => ?_, ?_⟩⟩
    · rw [ShadowStore.list_append_self, ShadowStore.list_remove_ne _ _ hne.symm]
    · rw [ShadowStore.list_append_ne _ _ hne, ShadowStore.list_remove_self]
      rfl
    · rw [ShadowStore.list_append_ne _ _ hd', ShadowStore.list_remove_ne _ _ he']
    · simp
  · exact ⟨_, State.storePut_newKey hd hnew hfree, ShadowStore.list_append_self _ _ _,
      fun e hne => ShadowStore.list_append_ne _ _ hne, rfl, rfl, rfl⟩

end Sys2Proof.Machine
end

section
/-! PROOFS. The management engine on the shadow store: the read cursor, INSERT and DELETE (R118 to R120, R122). -/
namespace Sys2Proof.Machine

/-! ## An entry served, and the store it leaves (R53) -/

/-- A serving row takes its body's end, whichever it is, to the end of the event. -/
theorem finishEvent_serve {s : State} {k : ServeKind} {e : Entry} (body : Byte → Command → State → Served)
    (h : Serving s k e) :
    finishEvent s (s.serve k body) = .next (announce s (s.conclude e.tag (body e.tag e.cmd s))) := by
  rw [serve_eq s k e body h, finishEvent_eq]

section Rows
variable {s : State} {e : Entry}

theorem exec_shadowSelect (h : Serving s .shadowSelect e) :
    exec .shadowSelect s = .next (announce s (s.conclude e.tag (serveShadowSelect e.tag e.cmd s))) :=
  finishEvent_serve serveShadowSelect h

theorem exec_shadowRead (h : Serving s .shadowRead e) :
    exec .shadowRead s = .next (announce s (s.conclude e.tag (serveShadowRead e.tag e.cmd s))) :=
  finishEvent_serve serveShadowRead h

theorem exec_insert (h : Serving s .insert e) :
    exec .insert s = .next (announce s (s.conclude e.tag (serveInsert e.tag e.cmd s))) :=
  finishEvent_serve serveInsert h

theorem exec_delete (h : Serving s .delete e) :
    exec .delete s = .next (announce s (s.conclude e.tag (serveDelete e.tag e.cmd s))) :=
  finishEvent_serve serveDelete h

end Rows

/-- An entry answered with nothing else changed sets no class, so its event announces nothing (R152). -/
theorem answered_unchanged (s : State) (tag : Byte) (reply : List Byte) :
    let t := announce s (s.conclude tag (.ok s reply))
    Answered s t tag .ok reply ∧ Frame [.entries, .replyQueue] s t := by
  refine ⟨answered_ok s s tag reply rfl rfl, ?_⟩
  rw [announce_same _ _ (by simp [State.conclude])]
  intro b hb
  cases b <;> simp_all [State.agrees, State.conclude]

/-- A new store and an entry answered: every other block stays. -/
theorem answered_withShadow (s : State) (h : ShadowStore) (tag : Byte) (reply : List Byte) :
    let t := announce s (s.conclude tag (.ok (s.withShadow h) reply))
    Answered s t tag .ok reply ∧ Frame [.entries, .replyQueue, .shadow] s t ∧ t.shadow = h := by
  refine ⟨answered_ok s _ tag reply rfl rfl, ?_, by simp [State.conclude]⟩
  rw [announce_same _ _ (by simp [State.conclude])]
  intro b hb
  cases b <;> simp_all [State.agrees, State.conclude]

/-! ## The read cursor (R122) -/

section Cursor
variable {s : State} {c : Command} {d : DomainId}

theorem serveShadowSelect_domain {v : Byte} {rest : List Byte} (tag : Byte) (hpayload : c.payload = v :: rest)
    (hv : v.toNat = d.val) : serveShadowSelect tag c s = .ok (s.withShadow (s.shadow.select d)) [] := by
  have hlow : v.toNat < 8 := hv ▸ d.isLt
  have hdomain : (⟨v.toNat, hlow⟩ : DomainId) = d := Fin.ext hv
  simp [serveShadowSelect, hpayload, hlow, hdomain]

theorem serveShadowSelect_invalid {v : Byte} {rest : List Byte} (tag : Byte) (hpayload : c.payload = v :: rest)
    (hv : 7 < v.toNat) : serveShadowSelect tag c s = .invalid :=
  dif_neg (by rw [hpayload]; exact Nat.not_lt.2 hv)

theorem ShadowStore.atCursor_end {h : ShadowStore} (hend : h.position = none) : h.atCursor = none := by
  cases hselected : h.selected <;> simp [ShadowStore.atCursor, hend, hselected]

section OnAnEntry
variable {h : ShadowStore} {before after : List ShadowEntry} {x : ShadowEntry} (hselected : h.selected = some d)
  (hposition : h.position = some x.key) (hlist : h.list d = before ++ x :: after) (hbefore : ∀ y ∈ before, y.key ≠ x.key)
include hselected hposition hlist hbefore

theorem ShadowStore.atCursor_entry : h.atCursor = some (d, x) := by
  simp [ShadowStore.atCursor, hselected, hposition, hlist, entryAt_split hbefore]

theorem ShadowStore.advance_entry : h.advance = { h with position := after.head?.map (·.key) } := by
  simp [ShadowStore.advance, hselected, hposition, hlist, follower_split hbefore]

end OnAnEntry

/-- Data no longer than the image's room is filled with 0x00 to the room (R122, R175). -/
theorem fitBytes_of_length_le {n : Nat} {l : List Byte} (h : l.length ≤ n) :
    fitBytes n l = l ++ List.replicate (n - l.length) 0 := by
  rw [fitBytes, List.take_append, List.take_of_length_le h, List.take_replicate, Nat.min_eq_left (Nat.sub_le _ _)]

theorem serveShadowRead_end (tag : Byte) (hlocation : c.location = 0x0420) (hlength : c.length = 16)
    (hcursor : s.shadow.atCursor = none) : serveShadowRead tag c s = .ok s endMarker := by
  simp [serveShadowRead, hlocation, hlength, hcursor]

theorem serveShadowRead_entry {x : ShadowEntry} (tag : Byte) (hlocation : c.location = 0x0420)
    (hlength : c.length = 16) (hcursor : s.shadow.atCursor = some (d, x)) :
    serveShadowRead tag c s = .ok (s.withShadow s.shadow.advance) (readImage d x) := by
  simp [serveShadowRead, hlocation, hlength, hcursor]

theorem serveShadowRead_partial (tag : Byte) (h : ¬(c.location = 0x0420 ∧ c.length = 16)) :
    serveShadowRead tag c s = .invalid := if_neg h

end Cursor

/-! ## Edit images (R118, R175) -/

/-- R118 on an edit image's target. -/
def EditTargetOk (mgmt : Byte) (b : List Byte) : Prop :=
  1 ≤ (b.getD 2 0).toNat ∧ (b.getD 2 0).toNat ≤ 0x7F ∧ b.getD 2 0 ≠ mgmt

theorem editTargetOk_iff (mgmt : Byte) (b : List Byte) : editTargetOk mgmt b = true ↔ EditTargetOk mgmt b := by
  simp [editTargetOk, EditTargetOk, and_assoc]

/-- R118 on a whole INSERT image: target, domain, length, and the last location. -/
def InsertImageOk (mgmt : Byte) (b : List Byte) : Prop :=
  EditTargetOk mgmt b ∧ (b.getD 1 0).toNat ≤ 7 ∧ 1 ≤ (b.getD 5 0).toNat ∧ (b.getD 5 0).toNat ≤ 8
    ∧ 256 * (b.getD 3 0).toNat + (b.getD 4 0).toNat + (b.getD 5 0).toNat - 1 ≤ 0xFFFF

/-- INSERT's own conditions beside the domain's are those of R118. -/
theorem insertFieldsOk_iff (mgmt : Byte) (b : List Byte) (hdomain : (b.getD 1 0).toNat ≤ 7) :
    (editTargetOk mgmt b && decide (1 ≤ (b.getD 5 0).toNat) && decide ((b.getD 5 0).toNat ≤ shadowDataLimit)
        && rangeFits (editKey b).location (b.getD 5 0).toNat) = true ↔ InsertImageOk mgmt b := by
  have hrange (n : Nat) (hn : 1 ≤ n) : rangeFits (editKey b).location n = true ↔
      256 * (b.getD 3 0).toNat + (b.getD 4 0).toNat + n - 1 ≤ 0xFFFF := by
    simp only [rangeFits, editKey, joinBytes_toNat, decide_eq_true_eq]
    omega
  simp only [Bool.and_eq_true, editTargetOk_iff, decide_eq_true_eq, InsertImageOk]
  constructor
  · rintro ⟨⟨⟨htarget, hlow⟩, hhigh⟩, hfits⟩
    exact ⟨htarget, hdomain, hlow, hhigh, (hrange _ hlow).1 hfits⟩
  · rintro ⟨htarget, -, hlow, hhigh, hlast⟩
    exact ⟨⟨⟨htarget, hlow⟩, hhigh⟩, (hrange _ hlow).2 hlast⟩

/-! ## INSERT (R119) -/

section Insert
variable {s : State} {c : Command} {d : DomainId}

/-- The entry an INSERT image gives (R119). -/
def insertEntry (b : List Byte) : ShadowEntry :=
  { key := editKey b, data := (b.drop 6).take (b.getD 5 0).toNat }

theorem serveInsert_invalid (tag : Byte) (h : ¬InsertImageOk s.mgmtAddress c.payload) :
    serveInsert tag c s = .invalid := by
  simp only [serveInsert]
  split_ifs with hdomain hfields
  · exact absurd ((insertFieldsOk_iff _ _ (Nat.le_of_lt_succ hdomain)).1 hfields) h
  · rfl
  · rfl

/-- An image in its ranges goes where the cases of the store place it (R119). -/
theorem serveInsert_ok (tag : Byte) (h : InsertImageOk s.mgmtAddress c.payload)
    (hd : (c.payload.getD 1 0).toNat = d.val) :
    serveInsert tag c s = servedCommand ((s.storePut d (insertEntry c.payload)).map s.withShadow) := by
  have hlow : (c.payload.getD 1 0).toNat < 8 := hd ▸ d.isLt
  have hdomain : (⟨(c.payload.getD 1 0).toNat, hlow⟩ : DomainId) = d := Fin.ext hd
  have hfields := (insertFieldsOk_iff s.mgmtAddress c.payload (Nat.le_of_lt_succ hlow)).2 h
  simp only [serveInsert, dif_pos hlow, if_pos hfields, hdomain, insertEntry]
  generalize s.storePut d _ = put
  cases put <;> rfl

end Insert

/-! ## DELETE (R120) -/

section Delete
variable {s : State} {c : Command} {d : DomainId}

theorem serveDelete_invalid (tag : Byte) (h : ¬EditTargetOk s.mgmtAddress c.payload) :
    serveDelete tag c s = .invalid :=
  if_neg ((editTargetOk_iff _ _).not.2 h)

section InRange
variable (tag : Byte) (h : EditTargetOk s.mgmtAddress c.payload)
include h

theorem serveDelete_nothing (hholder : s.shadow.holder (editKey c.payload) = none) :
    serveDelete tag c s = .ok s [] := by
  simp [serveDelete, (editTargetOk_iff _ _).2 h, hholder]

theorem serveDelete_refused (hholder : s.shadow.holder (editKey c.payload) = some d)
    (hd : (s.dom d).state.isRestoring = true) : serveDelete tag c s = .refused := by
  simp [serveDelete, (editTargetOk_iff _ _).2 h, hholder, hd]

theorem serveDelete_removes (hholder : s.shadow.holder (editKey c.payload) = some d)
    (hd : (s.dom d).state.isRestoring = false) :
    serveDelete tag c s = .ok (s.withShadow (s.shadow.remove d (editKey c.payload))) [] := by
  simp [serveDelete, (editTargetOk_iff _ _).2 h, hholder, hd]

end InRange
end Delete

/-! ## The statements -/

/-- Settles O43: the cursor after a reset, then each select by its value and each READ by its range and the cursor. -/
theorem cursorSelectsAndReads : Obligations.CursorSelectsAndReads := by
  refine ⟨fun _ _ => ⟨rfl, rfl⟩, fun s e => ⟨fun v rest hserving hpayload => ?_, fun hserving => ?_⟩⟩
  · rw [exec_shadowSelect hserving]
    refine ⟨fun d hv => ⟨_, rfl, ?_⟩, fun hv => ⟨_, rfl, ?_⟩⟩
    · rw [serveShadowSelect_domain e.tag hpayload hv]
      exact answered_withShadow s (s.shadow.select d) e.tag []
    · rw [serveShadowSelect_invalid e.tag hpayload hv]
      exact notServed_invalid s e.tag
  · rw [exec_shadowRead hserving]
    refine ⟨fun hlocation hlength => ⟨fun hend => ⟨_, rfl, ?_⟩, ?_⟩, fun hpartial => ⟨_, rfl, ?_⟩⟩
    · rw [serveShadowRead_end e.tag hlocation hlength (ShadowStore.atCursor_end hend)]
      exact answered_unchanged s e.tag endMarker
    · intro d before after x hselected hposition hlist hbefore hdata
      refine ⟨_, rfl, ?_⟩
      rw [serveShadowRead_entry e.tag hlocation hlength
        (ShadowStore.atCursor_entry hselected hposition hlist hbefore),
        ShadowStore.advance_entry hselected hposition hlist hbefore, readImage, fitBytes_of_length_le hdata,
        ← List.append_assoc]
      exact answered_withShadow s _ e.tag _
    · rw [serveShadowRead_partial e.tag hpartial]
      exact notServed_invalid s e.tag

/-- Settles O45: INSERT by its image and by where the store places the entry, DELETE by its target and the key's
holder. -/
theorem insertAndDeleteEditTheStore : Obligations.InsertAndDeleteEditTheStore := by
  intro s e b0 b1 target hi lo len data hpayload _ key targetOk insertOk
  have htarget : EditTargetOk s.mgmtAddress e.cmd.payload ↔ targetOk := by rw [hpayload]; rfl
  have hinsert : InsertImageOk s.mgmtAddress e.cmd.payload ↔ insertOk := by rw [hpayload]; rfl
  have hkey : editKey e.cmd.payload = key := by rw [hpayload]; rfl
  refine ⟨fun hserving => ?_, fun hserving => ?_⟩
  · rw [exec_insert hserving]
    refine ⟨fun hbad => ⟨_, rfl, ?_⟩, fun hok d hd => ?_⟩
    · rw [serveInsert_invalid e.tag (hinsert.not.2 hbad)]
      exact notServed_invalid s e.tag
    have hentry : insertEntry e.cmd.payload = { key := key, data := data.take len.toNat } := by rw [hpayload]; rfl
    rw [serveInsert_ok e.tag (hinsert.2 hok) (d := d) (by rw [hpayload]; exact hd), hentry]
    refine ⟨fun hnowhere => ⟨_, rfl, ?_⟩, fun h hplaced => ⟨_, rfl, ?_⟩⟩
    · rw [hnowhere]
      exact notServed_refused s e.tag
    · rw [hplaced]
      exact answered_withShadow s h e.tag []
  · rw [exec_delete hserving]
    refine ⟨fun hbad => ⟨_, rfl, ?_⟩, fun hok hnone => ⟨_, rfl, ?_⟩, fun hok d hheld honly => ?_⟩
    · rw [serveDelete_invalid e.tag (htarget.not.2 hbad)]
      exact notServed_invalid s e.tag
    · rw [serveDelete_nothing e.tag (htarget.2 hok) (hkey ▸ ShadowStore.holder_eq_none hnone)]
      exact answered_unchanged s e.tag []
    · have hholder : s.shadow.holder (editKey e.cmd.payload) = some d := hkey ▸ ShadowStore.holder_eq_some hheld honly
      refine ⟨fun hrestoring => ⟨_, rfl, ?_⟩, fun hother => ⟨_, rfl, ?_⟩⟩
      · rw [serveDelete_refused e.tag (htarget.2 hok) hholder hrestoring]
        exact notServed_refused s e.tag
      · rw [serveDelete_removes e.tag (htarget.2 hok) hholder hother, hkey, ShadowStore.remove_eq]
        exact answered_withShadow s _ e.tag []

end Sys2Proof.Machine
end

section
/-! PROOFS. The counters: what an increment does at the end of its range, and CLEAR_COUNTERS over both ports, the hit
counters and the domains (R58, R72, R100, R141, R168, R174). -/
namespace Sys2Proof.Machine

/-! ## A counter raised (R58, R141, R168) -/

theorem satInc_toNat (c : Half) : (satInc c).toNat = if c.toNat = 65535 then 65535 else c.toNat + 1 := by
  have hfull : c = 0xFFFF ↔ c.toNat = 65535 := BitVec.toNat_inj.symm
  simp only [satInc, hfull]
  split_ifs with h
  · exact h
  · exact BitVec.toNat_add_of_lt (by bv_omega)

/-! ## CLEAR_COUNTERS (R174) -/

/-- What CLEAR_COUNTERS leaves before its own entry is answered. -/
def State.clearCounters (s : State) : State :=
  (((s.withUport { s.uport with counters := .zero }).withSport { s.sport with counters := .zero }).withHits
    (Vector.replicate 32 0)).withDomains (tabulate 8 fun d => (s.dom d).clearCounts)

theorem serveClearCounters_eq (tag : Byte) (c : Command) (s : State) :
    serveClearCounters tag c s = .ok s.clearCounters [] := rfl

/-- CLEAR_COUNTERS sets no class, so its event announces nothing (R152). -/
theorem exec_clearCounters {s : State} {e : Entry} (h : Serving s .clearCounters e) :
    exec .clearCounters s = .next (s.clearCounters.finishEntry e.tag .ok []) := by
  show finishEvent s (s.serve .clearCounters serveClearCounters) = _
  rw [finishEvent_serve serveClearCounters h, serveClearCounters_eq]
  exact congrArg _ (announce_same _ _ (by simp [State.conclude, State.clearCounters]))

theorem State.clearCounters_uport (s : State) : s.clearCounters.uport = { s.uport with counters := .zero } := rfl

theorem State.clearCounters_sport (s : State) : s.clearCounters.sport = { s.sport with counters := .zero } := rfl

theorem State.clearCounters_hits (s : State) : s.clearCounters.hits = Vector.replicate 32 0 := rfl

theorem State.dom_clearCounters (s : State) (d : DomainId) : s.clearCounters.dom d = (s.dom d).clearCounts := by
  simp [State.clearCounters]

/-- Clearing touches neither the entries nor the reply queue, so the answer stands as over the state before it. -/
theorem answered_clearCounters (s : State) (tag : Byte) :
    Answered s (s.clearCounters.finishEntry tag .ok []) tag .ok [] :=
  answered_finishEntry s.clearCounters tag .ok []

theorem frame_clearCounters (s : State) (tag : Byte) :
    Frame [.entries, .replyQueue, .uport, .sport, .hits, .domains] s (s.clearCounters.finishEntry tag .ok []) := by
  intro b hb
  cases b <;> simp_all [State.agrees, State.clearCounters]

/-! ## The statement -/

/-- Settles O42: the increment by whether the counter is full, then each block that CLEAR_COUNTERS writes. -/
theorem clearCountersZeroesEveryCounter : Obligations.ClearCountersZeroesEveryCounter := by
  refine ⟨satInc_toNat, fun s e hserving => ⟨_, exec_clearCounters hserving, answered_clearCounters s e.tag,
    frame_clearCounters s e.tag, ?_, ?_, fun i => ?_, fun d => ?_⟩⟩
  · simp [State.clearCounters_uport, UCounters.zero]
  · simp [State.clearCounters_sport, SCounters.zero]
  · simp [State.clearCounters_hits]
  · simp [State.dom_clearCounters, Domain.clearCounts]

end Sys2Proof.Machine
end

section
/-! PROOFS. What a command can do: one inversion lemma over the dispatch, from which every law of the step is
derived. -/
namespace Sys2Proof.Machine

/-! ## Several classes set -/

/-- Several classes set in one event (R145). -/
def State.raiseAll (s : State) (cs : List EventClass) : State := cs.foldl State.raise s

@[simp] theorem State.raiseAll_nil (s : State) : s.raiseAll [] = s := rfl

@[simp] theorem State.raiseAll_cons (s : State) (c : EventClass) (cs : List EventClass) :
    s.raiseAll (c :: cs) = (s.raise c).raiseAll cs := rfl

@[simp] theorem State.raiseAll_frame (s : State) (cs : List EventClass) :
    (s.raiseAll cs).uport = s.uport ∧ (s.raiseAll cs).entries = s.entries ∧ (s.raiseAll cs).replyQueue = s.replyQueue
      ∧ (s.raiseAll cs).parkLimit = s.parkLimit ∧ (s.raiseAll cs).windows = s.windows ∧ (s.raiseAll cs).hits = s.hits
      ∧ (s.raiseAll cs).domains = s.domains ∧ (s.raiseAll cs).pg = s.pg ∧ (s.raiseAll cs).shadow = s.shadow
      ∧ (s.raiseAll cs).sport = s.sport ∧ (s.raiseAll cs).straps = s.straps ∧ (s.raiseAll cs).pending = s.pending
      ∧ (s.raiseAll cs).events.enable = s.events.enable ∧ (s.raiseAll cs).events.inputs = s.events.inputs := by
  induction cs generalizing s with
  | nil => simp
  | cons c cs ih => simpa using ih (s.raise c)

@[simp] theorem State.dom_raiseAll (s : State) (cs : List EventClass) (d : DomainId) :
    (s.raiseAll cs).dom d = s.dom d := by
  simp [State.dom]

/-! ## One domain moved -/

/-- What the events that act on one domain alone make of it, CLEAR_FAULT, the end of a restore and a failed attempt
apart (R80 to R86, R96, R97, R99); `noWork` says that nothing of the domain is in progress. -/
inductive Domain.Moves (noWork : Prop) (x : Domain) : Domain → Prop
  | stays : Moves noWork x x
  | active : Moves noWork x x.active
  | woken (h : x.state = .off) : Moves noWork x x.woken
  | willWake (h : x.state = .draining ∨ ∃ n, x.state = .cooldown n) : Moves noWork x x.willWake
  | idleStops {n : Option Nat} (h : x.state = .on n) : Moves noWork x { x with state := .on none }
  | warned {n : Option Nat} {m : Nat} (h : x.state = .on n) : Moves noWork x { x with state := .warning m }
  | drains (h : x.state.takesActivity = true) : Moves noWork x { x with state := .draining }
  | powersDown (h : x.state.takesActivity = true ∨ x.state = .draining) (hw : noWork) : Moves noWork x x.cooled
  | restarts {n : Nat} (h : x.state = .cooldown n) (hp : x.pendingWake = true) :
      Moves noWork x { x with state := .settling x.config.settleTime.toNat, attempt := x.attempt + 1 }
  | turnsOff {n : Nat} (h : x.state = .cooldown n) (hp : x.pendingWake = false) :
      Moves noWork x { x with state := .off }
  | probes {n : Nat} {target : Byte} (h : x.state = .settling n) :
      Moves noWork x { x with state := .checking target false }

/-- One domain has moved, and some classes may have been set; nothing else has changed. -/
def DomainMoved (s t : State) : Prop :=
  ∃ d cs y, Domain.Moves (NoWork s d) (s.dom d) y ∧ t = (s.raiseAll cs).setDom d y

theorem domainMoved_refl (s : State) : DomainMoved s s :=
  ⟨0, [], s.dom 0, .stays, (setDom_dom s 0).symm⟩

theorem domainMoved_setDom {s : State} {d : DomainId} {y : Domain} (h : Domain.Moves (NoWork s d) (s.dom d) y) :
    DomainMoved s (s.setDom d y) := ⟨d, [], y, h, rfl⟩

/-- The drain check powers a domain down or does nothing (R83). -/
theorem domainMoved_drainCheck (s : State) (d : DomainId) : DomainMoved s (s.drainCheck d) := by
  by_cases h : (s.dom d).state = .draining ∧ NoWork s d
  · rw [drainCheck_done s d h.1 h.2]
    exact ⟨d, [.domainDown], _, .powersDown (.inr h.1) h.2, rfl⟩
  · rw [drainCheck_not s d h]
    exact domainMoved_refl s

/-- A domain in ON or WARNING enters DRAINING, or passes through it (R83). -/
theorem domainMoved_enterDraining {s : State} {d : DomainId} (cs : List EventClass)
    (h : (s.dom d).state.takesActivity = true) : DomainMoved s ((s.raiseAll cs).enterDraining d) := by
  have hwork : NoWork (s.raiseAll cs) d ↔ NoWork s d := noWork_congr d (by simp) (by simp)
  by_cases hw : NoWork s d
  · rw [enterDraining_done _ d (hwork.2 hw)]
    refine ⟨d, cs ++ [.domainDown], _, .powersDown (.inl h) hw, ?_⟩
    rw [State.dom_raiseAll]
    simp [State.raiseAll]
  · rw [enterDraining_waits _ d (hwork.not.2 hw)]
    exact ⟨d, cs, _, .drains h, by simp⟩

theorem Domain.moves_wakeCommanded (noWork : Prop) (x : Domain) : Domain.Moves noWork x x.wakeCommanded := by
  unfold Domain.wakeCommanded
  split
  next h => exact .woken h
  next h => exact .willWake (.inr ⟨_, h⟩)
  next h => exact .willWake (.inl h)
  next => exact .active
  next => exact .active
  all_goals exact .stays

theorem domainMoved_wakeCommand {s t : State} {d : DomainId} (h : s.wakeCommand d = some t) : DomainMoved s t := by
  by_cases hf : (s.dom d).state = .fault
  · rw [State.wakeCommand_fault hf] at h; cases h
  · rw [State.wakeCommand_served hf] at h
    cases h
    exact domainMoved_setDom (Domain.moves_wakeCommanded _ _)

theorem domainMoved_sleepCommand {s t : State} {d : DomainId} (h : s.sleepCommand d = some t) : DomainMoved s t := by
  by_cases ha : (s.dom d).state.takesActivity = true
  · rw [State.sleepCommand_inService ha] at h
    cases h
    exact domainMoved_enterDraining [] ha
  · have : t = s := by
      cases hx : (s.dom d).state <;> simp_all [State.sleepCommand, DomState.takesActivity]
    exact this ▸ domainMoved_refl s

theorem domainMoved_minimumOffDone {s : State} {d : DomainId} {n : Nat} (h : (s.dom d).state = .cooldown n) :
    DomainMoved s (s.minimumOffDone d) := by
  unfold State.minimumOffDone
  split
  next hp =>
    rw [enterSettling_eq, setDom_setDom]
    simp only [State.dom_setDom_self]
    exact domainMoved_setDom (.restarts h hp)
  next hp => exact domainMoved_setDom (.turnsOff h (by simpa using hp))

/-- IDLE_EXPIRY moves its domain to WARNING or DRAINING, or leaves it ON with the timer stopped (R80, R83). -/
theorem execIdleExpiry_moves (s : State) (d : DomainId) :
    ∃ t, execIdleExpiry d s = finishEvent s t ∧ DomainMoved s t := by
  refine ⟨_, rfl, ?_⟩
  split
  next h =>
    split
    · split
      · exact domainMoved_enterDraining [.domainWarning] (by rw [h]; rfl)
      · exact ⟨d, [.domainWarning], _, .warned h, rfl⟩
    · exact domainMoved_setDom (.idleStops h)
  all_goals exact domainMoved_refl s

/-- The actions of a selected edge on one domain are one move of it (R99, R156). -/
theorem Domain.moves_edgeActed (noWork : Prop) (x : Domain) (acts wakes : Bool) :
    Domain.Moves noWork x (x.edgeActed acts wakes) := by
  unfold Domain.edgeActed
  split
  case h_3 h => split <;> [exact .woken h; exact .stays]
  case h_4 h => split <;> [exact .willWake (.inr ⟨_, h⟩); exact .stays]
  case h_5 h => split <;> [exact .willWake (.inl h); exact .stays]
  case h_1 | h_2 => split <;> [exact .active; exact .stays]
  all_goals exact .stays

/-- What an arrival makes of its domain is one move of it (R79). -/
theorem Domain.moves_arrived (noWork : Prop) (x : Domain) (cls : ActivityClass) :
    Domain.Moves noWork x (x.arrived cls) := by
  unfold Domain.arrived
  cases cls with
  | passive => exact .stays
  | keep => exact .active
  | wake =>
    cases h : x.state with
    | on | warning => exact .active
    | draining => dsimp only; split <;> [exact .willWake (.inl h); exact .stays]
    | cooldown => dsimp only; split <;> [exact .willWake (.inr ⟨_, h⟩); exact .stays]
    | off => dsimp only; split <;> [exact .woken h; exact .stays]
    | settling | checking | restoring | fault => exact .stays

/-! ## What serving a LOCAL entry leaves -/

/-- A field keeps its value or takes one in its range. -/
def KeptOr {α : Type} (old new : α) (ok : α → Prop) : Prop := new = old ∨ ok new

/-- What the row of a command leaves of the state where it serves the LOCAL entry with this tag and answers it OK, the
entry itself not yet answered (R53, R162). -/
inductive Body (s : State) (tag : Byte) : Instr → State → Prop
  | unchanged (c : Instr) : Body s tag c s
  | settings {c : Instr} {u p : Format} {pending : Option PendingFormat} {timeout retry gap park : Byte}
      (hc : c = .mgmtWrite ∨ c = .uportFormatWrite ∨ c = .sportFormatWrite)
      (hu : KeptOr s.uport.setting u (·.ok = true)) (hp : KeptOr s.sport.setting p (·.ok = true))
      (hpending : pending = s.uport.pendingFormat ∨ ∃ n, pending = some { format := u, tag := n })
      (htimeout : KeptOr s.sport.answerTimeout timeout (4 ≤ ·.toNat))
      (hretry : KeptOr s.sport.retryCount retry (·.toNat ≤ 3))
      (hgap : KeptOr s.sport.defaultGap gap fun b => 1 ≤ b.toNat ∧ b.toNat ≤ 16)
      (hpark : KeptOr s.parkLimit park (1 ≤ ·.toNat)) :
      Body s tag c
        (((s.withUport { s.uport with setting := u, pendingFormat := pending }).withSport
          { s.sport with setting := p, answerTimeout := timeout, retryCount := retry, defaultGap := gap }).withParkLimit
          park)
  | extConfig (cs : Vector ExtConfig 4) : Body s tag .mgmtWrite (s.withEvents (s.events.configure cs))
  | events {c : Instr} (hc : c = .enableWrite ∨ c = .clearWrite) (enable cleared : EventSet) :
      Body s tag c (s.withEvents (s.events.write enable cleared))
  | windows (ws : Vector Window 32) : Body s tag .windowWrite (s.withWindows ws)
  | domainConfigs {cs : Vector DomainConfig 8}
      (h : ∀ d, KeptOr (s.dom d).config (cs.get d) (ConfigOk s.mgmtAddress)) :
      Body s tag .domainConfigWrite (s.withDomains (tabulate 8 fun d => (s.dom d).configure (cs.get d)))
  | domainMoved {c : Instr} {t : State} (h : DomainMoved s t) : Body s tag c t
  | faultCleared {d : DomainId} (h : (s.dom d).state = .fault) :
      Body s tag .clearFault (s.setDom d { s.dom d with state := .off, attempt := 0, cause := .none })
  | shadowCleared {d : DomainId} (h : (s.dom d).state.isRestoring = false) :
      Body s tag .clearShadow (s.withShadow (s.shadow.clear d))
  | segmentReset : Body s tag .segmentReset (s.segmentReset tag)
  | countersCleared : Body s tag .clearCounters s.clearCounters
  | selected (d : DomainId) : Body s tag .shadowSelect (s.withShadow (s.shadow.select d))
  | advanced : Body s tag .shadowRead (s.withShadow s.shadow.advance)
  | inserted {d : DomainId} {x : ShadowEntry} {h : ShadowStore} (hput : s.storePut d x = some h) :
      Body s tag .insert (s.withShadow h)
  | deleted {d : DomainId} {k : Key} (hholder : s.shadow.holder k = some d)
      (hrestoring : (s.dom d).state.isRestoring = false) : Body s tag .delete (s.withShadow (s.shadow.remove d k))

/-- A record as it would stand is the stored one or one its validation has passed (R164). -/
theorem keptOr_of_rewritten {α : Type} {base : Nat} {image : List Byte} {ofImage : List Byte → Option α} {old new : α}
    {location : Nat} {payload : List Byte} {ok : α → Prop}
    (h : rewritten base image ofImage old location payload = some new)
    (hok : ∀ b x, ofImage b = some x → ok x) : KeptOr old new ok := by
  unfold rewritten at h
  split at h
  · exact .inr (hok _ _ h)
  · exact .inl (Option.some.inj h).symm

theorem Format.ok_iff (f : Format) : f.ok = true ↔ f.divisor ≠ 0 := by simp [Format.ok]

/-- A format read from its bytes is one a port may hold (R2). -/
theorem Format.ok_of_ofImage {b : List Byte} {f : Format} (h : Format.ofImage b = some f) : f.ok = true := by
  unfold Format.ofImage at h
  simp only at h
  split at h
  · split at h
    next hr =>
      cases h
      rw [Format.ok_iff]
      intro h0
      have h1 := congrArg BitVec.toNat h0
      rw [BitVec.toNat_setWidth, Nat.mod_eq_of_lt (by omega)] at h1
      change _ = 0 at h1
      omega
    next => cases h
  · cases h

theorem settingByte_range {low high : Nat} {b : List Byte} {x : Byte} (h : settingByte low high b = some x) :
    low ≤ x.toNat ∧ x.toNat ≤ high := by
  unfold settingByte at h
  split at h
  next hr => cases h; exact hr
  next => cases h

/-- A configuration record read from its bytes is in its ranges (R75). -/
theorem DomainConfig.ok_of_ofImage {mgmt : Byte} {b : List Byte} {c : DomainConfig}
    (h : DomainConfig.ofImage mgmt b = some c) : ConfigOk mgmt c := by
  unfold DomainConfig.ofImage at h
  simp only at h
  split at h
  · split at h
    next hr =>
      obtain ⟨ht, hm, hs, hw1, hw4, hg1, hg16⟩ := hr
      cases h
      refine ⟨hs, hw1, hw4, hg1, hg16, fun target htarget => ?_⟩
      dsimp only at htarget
      split at htarget
      next => cases htarget
      next h0 =>
        cases htarget
        refine ⟨?_, ht, hm⟩
        have : (b.getD 5 0).toNat ≠ 0 := fun h => h0 (BitVec.eq_of_toNat_eq h)
        omega
    next => cases h
  · cases h

theorem body_of_writeSettings {s u : State} {tag : Byte} {cmd : Command} {reply : List Byte} {c : Instr}
    (hc : c = .mgmtWrite ∨ c = .uportFormatWrite ∨ c = .sportFormatWrite)
    (h : writeSettings tag cmd s = .ok u reply) : Body s tag c u := by
  unfold writeSettings at h
  simp only at h
  split at h
  next hu hp htimeout hretry hgap hpark =>
    injection h with h
    subst h
    refine .settings hc (keptOr_of_rewritten hu fun _ _ => Format.ok_of_ofImage)
      (keptOr_of_rewritten hp fun _ _ => Format.ok_of_ofImage) ?_
      (keptOr_of_rewritten htimeout fun _ _ hb => (settingByte_range hb).1)
      (keptOr_of_rewritten hretry fun _ _ hb => (settingByte_range hb).2)
      (keptOr_of_rewritten hgap fun _ _ => settingByte_range)
      (keptOr_of_rewritten hpark fun _ _ hb => (settingByte_range hb).1)
    split
    · exact .inr ⟨_, rfl⟩
    · exact .inl rfl
  next => cases h

theorem body_of_writeExtConfig {s u : State} {tag : Byte} {cmd : Command} {reply : List Byte}
    (h : writeExtConfig cmd s = .ok u reply) : Body s tag .mgmtWrite u := by
  unfold writeExtConfig at h
  split at h
  · injection h with h; subst h; exact .extConfig _
  · cases h

theorem body_of_serveWrite {s u : State} {tag : Byte} {cmd : Command} {reply : List Byte}
    (h : serveWrite tag cmd s = .ok u reply) : Body s tag .mgmtWrite u := by
  unfold serveWrite at h
  split at h
  case h_1 => exact body_of_writeSettings (.inl rfl) h
  case h_2 => exact body_of_writeExtConfig h
  all_goals cases h

theorem body_of_serveRead {s u : State} {tag : Byte} {cmd : Command} {reply : List Byte}
    (h : serveRead tag cmd s = .ok u reply) : Body s tag .mgmtRead u := by
  unfold serveRead at h
  split at h
  · injection h with h; subst h; exact .unchanged _
  · cases h

theorem body_of_writeEvents {s u : State} {tag : Byte} {cmd : Command} {reply : List Byte} {c : Instr}
    (hc : c = .enableWrite ∨ c = .clearWrite) (h : writeEvents cmd s = .ok u reply) : Body s tag c u := by
  unfold writeEvents at h
  simp only at h
  split at h
  · cases h
  · split at h
    · cases h
    · injection h with h; subst h; exact .events hc _ _

theorem body_of_writeWindows {s u : State} {tag : Byte} {cmd : Command} {reply : List Byte}
    (h : writeWindows tag cmd s = .ok u reply) : Body s tag .windowWrite u := by
  unfold writeWindows at h
  split at h
  · injection h with h; subst h; exact .windows _
  · cases h

theorem body_of_writeDomainConfigs {s u : State} {tag : Byte} {cmd : Command} {reply : List Byte}
    (h : writeDomainConfigs tag cmd s = .ok u reply) : Body s tag .domainConfigWrite u := by
  unfold writeDomainConfigs at h
  split at h
  next cs hcs =>
    injection h with h
    subst h
    exact .domainConfigs fun d =>
      keptOr_of_rewritten ((judgeAll_some _ cs).1 hcs d) fun _ _ => DomainConfig.ok_of_ofImage
  next => cases h

/-- A command of the domain controller or the store is answered OK where it gives a state. -/
theorem servedCommand_eq_ok {o : Option State} {u : State} {reply : List Byte} (h : servedCommand o = .ok u reply) :
    o = some u := by
  cases o with
  | none => cases h
  | some t => injection h with h; rw [h]

theorem body_of_clearFaultCommand {s u : State} {tag : Byte} {d : DomainId} (h : s.clearFaultCommand d = some u) :
    Body s tag .clearFault u := by
  by_cases hf : (s.dom d).state = .fault
  · rw [State.clearFaultCommand_fault hf] at h
    cases h
    exact .faultCleared hf
  · rw [State.clearFaultCommand_refused hf] at h; cases h

theorem body_of_clearShadowCommand {s u : State} {tag : Byte} {d : DomainId} (h : s.clearShadowCommand d = some u) :
    Body s tag .clearShadow u := by
  cases hr : (s.dom d).state.isRestoring with
  | false =>
    rw [State.clearShadowCommand_served hr] at h
    cases h
    exact .shadowCleared hr
  | true => rw [State.clearShadowCommand_refused hr] at h; cases h

theorem body_of_serveShadowSelect {s u : State} {tag : Byte} {cmd : Command} {reply : List Byte}
    (h : serveShadowSelect tag cmd s = .ok u reply) : Body s tag .shadowSelect u := by
  unfold serveShadowSelect at h
  split at h
  · injection h with h; subst h; exact .selected _
  · cases h

theorem body_of_serveShadowRead {s u : State} {tag : Byte} {cmd : Command} {reply : List Byte}
    (h : serveShadowRead tag cmd s = .ok u reply) : Body s tag .shadowRead u := by
  unfold serveShadowRead at h
  split at h
  · split at h
    · injection h with h; subst h; exact .advanced
    · injection h with h; subst h; exact .unchanged _
  · cases h

theorem body_of_serveInsert {s u : State} {tag : Byte} {cmd : Command} {reply : List Byte}
    (h : serveInsert tag cmd s = .ok u reply) : Body s tag .insert u := by
  unfold serveInsert at h
  simp only at h
  split at h
  · split at h
    · split at h
      next hput => injection h with h; subst h; exact .inserted hput
      next => cases h
    · cases h
  · cases h

theorem body_of_serveDelete {s u : State} {tag : Byte} {cmd : Command} {reply : List Byte}
    (h : serveDelete tag cmd s = .ok u reply) : Body s tag .delete u := by
  unfold serveDelete at h
  split at h
  · split at h
    next hholder =>
      split at h
      · cases h
      next hr => injection h with h; subst h; exact .deleted hholder (by simpa using hr)
    next => injection h with h; subst h; exact .unchanged _
  · cases h

/-! ## What a command can do -/

/-- The effect of a command on a state, the power-on reset apart and notice-pending not yet judged: nothing, or what its
event does. A constructor whose command is a variable stands for several rows with one effect. -/
inductive Effect (s : State) : Instr → State → Prop
  | nothing (c : Instr) : Effect s c s
  | character (data : Byte) (mark : CharMark) (h : s.uport.line.takesCharacter = true) :
      Effect s (.urxCharacterReceived data mark) ((s.onLine (.afterCharacter mark)).receive data mark)
  | gapExpiry (h : s.uport.rx.inFrame = true) : Effect s .uportGapExpiry (s.discardFrame .addGap .hunt)
  | discardEnd : Effect s .discardEnd (s.withUport (s.uport.toState .hunt))
  | upstreamBreak (h : s.uport.line = .held) : Effect s .upstreamBreak s.takeBreak
  | breakEnd : Effect s .breakEnd (s.withUport { s.uport.toState .hunt with line := .mark 0 })
  | urxLine (c : Instr) (line : LineState) : Effect s c (s.onLine line)
  | sdlLine (c : Instr) (line : LineState) : Effect s c (s.withSport { s.sport with line := line })
  | choice : Effect s .transmitterChoice s.transmitterChoice
  | refusalSent (h : s.uport.sending = some .refusal) :
      Effect s .refusalSent
        (s.withUport { s.uport with tx := none, slot := none, counters := s.uport.counters.addReply }).transmitterChoice
  | replySent (tag : Byte) (h : s.uport.sending = some (.reply tag)) : Effect s .replySent (s.replyGone tag)
  | noticeSent (h : s.uport.sending = some .notice) :
      Effect s .noticeSent
        (s.withUport { s.uport with tx := none, counters := s.uport.counters.addNotice }).transmitterChoice
  | parkExpired {tag : Byte} {e : Entry} (he : s.entry? tag = some e) (hp : e.state.isParked = true) :
      Effect s (.parkTimerExpiry tag) ((s.finishEntry tag .retry []).raise .parkExpired)
  | answered {c : Instr} {e : Entry} {t : State} {reply : List Byte} (he : s.oldestLocal = some e)
      (hb : Body s e.tag c t) : Effect s c (t.finishEntry e.tag .ok reply)
  | notServed {c : Instr} {e : Entry} {status : Status} (he : s.oldestLocal = some e) :
      Effect s c ((s.raise .mgmtError).finishEntry e.tag status [])
  | domainMoved {c : Instr} {t : State} (h : DomainMoved s t) : Effect s c t
  | settleFails {d : DomainId} {n : Nat} (h : (s.dom d).state = .settling n) :
      Effect s (.settleExpiry d) (finishFaulted s (s.attemptFails d .pgLow))
  | settleRestores {d : DomainId} {n : Nat} (h : (s.dom d).state = .settling n) :
      Effect s (.settleExpiry d) (s.enterRestoring d)
  | pgFilter (c : Instr) (p : Vector Filter 4) : Effect s c (s.withPg p)
  | pgFalls (i : Fin 4) (p : Vector Filter 4) :
      Effect s (.powerGoodFilteredChange i) (finishFaulted (s.withPg p) ((s.withPg p).powerGoodFalling i))
  | inputFilter (c : Instr) (i : Fin 4) (f : Filter) :
      Effect s c (s.setInput i { s.events.inputs.get i with filter := f })
  | edgeSelected (i : Fin 4) (f : Filter) :
      Effect s (.filteredChange i) ((s.setInput i { s.events.inputs.get i with filter := f }).selectedEdge i)
  | granted {e : Entry} (hfree : s.sport.attempt = none) (he : s.forwardCandidate = some e) :
      Effect s .grant (s.grantEntry e)
  | grantedMaintenance {d : DomainId} {m : Maintenance} (hfree : s.sport.attempt = none)
      (hm : s.maintenanceCandidate = some (d, m)) : Effect s .grant (s.grantMaintenance d m)
  | phase {c : Instr} {p q : Phase} {x y : Exchange} {line : LineState}
      (ha : s.sport.attempt = some { phase := p, exchange := x })
      (hy : y.originator = x.originator ∧ y.cmd = x.cmd ∧ y.domain = x.domain) :
      Effect s c (s.withSport { s.sport with attempt := some { phase := q, exchange := y }, line := line })
  | ended {c : Instr} {p : Phase} {x y : Exchange} {o : AttemptOutcome} {line : LineState}
      (ha : s.sport.attempt = some { phase := p, exchange := x })
      (hy : y.originator = x.originator ∧ y.cmd = x.cmd ∧ y.domain = x.domain) :
      Effect s c ((s.freed line o).deliver y o)

/-- A serving row answers the oldest LOCAL entry by its body, or does nothing (R53). -/
theorem effect_serve {s : State} {c : Instr} {k : ServeKind} {body : Byte → Command → State → Served}
    (hbody : ∀ tag cmd u reply, body tag cmd s = .ok u reply → Body s tag c u) : Effect s c (s.serve k body) := by
  unfold State.serve
  split
  next e he =>
    split
    · cases hb : body e.tag e.cmd s with
      | ok u reply => exact .answered he (hbody _ _ _ _ hb)
      | refused => exact .notServed he
      | invalid => exact .notServed he
    · exact .nothing c
  next => exact .nothing c

theorem SPort.inPhase_eq_some {p : SPort} {phase : Phase} {x : Exchange} (h : p.inPhase phase = some x) :
    p.attempt = some { phase := phase, exchange := x } := by
  unfold SPort.inPhase at h
  split at h
  next a ha =>
    split at h
    next hp => cases h; rw [ha, ← hp]
    next => cases h
  next => cases h

theorem effect_attemptEnds {s : State} {c : Instr} {p : Phase} {x y : Exchange} (o : AttemptOutcome) (line : LineState)
    (ha : s.sport.attempt = some { phase := p, exchange := x })
    (hy : y.originator = x.originator ∧ y.cmd = x.cmd ∧ y.domain = x.domain) :
    Effect s c ((s.withSport { s.sport with line := line }).attemptEnds y o) := by
  rw [attemptEnds_eq]
  exact .ended ha hy

/-- What a character of an answer does, the line already moved (R134, R135). -/
theorem effect_answerMarked {s : State} {c : Instr} {x : Exchange} (data : Byte) (mark : CharMark) (line : LineState)
    (ha : s.sport.attempt = some { phase := .receive, exchange := x }) :
    Effect s c ((s.withSport { s.sport with line := line }).answerMarked x data mark) := by
  have hends := fun o => effect_attemptEnds (c := c) o line ha ⟨rfl, rfl, rfl⟩
  cases mark with
  | parity | framing => exact hends _
  | good =>
    simp only [State.answerMarked, State.answerCharacter]
    split
    · exact hends _
    · unfold State.afterAnswer
      split
      · exact effect_attemptEnds _ line ha ⟨rfl, rfl, rfl⟩
      · exact .phase ha ⟨rfl, rfl, rfl⟩

theorem effect_arbitrate {s : State} (hfree : s.sport.attempt = none) : Effect s .grant s.arbitrate := by
  unfold State.arbitrate
  split
  next hm _ _ => exact .grantedMaintenance hfree hm
  next he _ => exact .granted hfree he
  next hm _ => exact .grantedMaintenance hfree hm
  next he => exact .granted hfree he
  next => exact .nothing _

/-- The outcome of a command whose effect is one of those above. -/
theorem finishEvent_effect {s t : State} {c : Instr} (h : Effect s c t) :
    ∃ u, finishEvent s t = .next (announce s u) ∧ Effect s c u := ⟨t, rfl, h⟩

/-- Every command but a power-on reset answers a next state, and does to it one of the effects above. -/
theorem exec_effect (c : Instr) (s : State) (hreset : ∀ pins, c ≠ .powerOnReset pins) :
    ∃ u, exec c s = .next (announce s u) ∧ Effect s c u := by
  cases c
  case powerOnReset pins => exact absurd rfl (hreset pins)
  case idleExpiry d =>
    obtain ⟨t, ht, hm⟩ := execIdleExpiry_moves s d
    exact ⟨t, ht, .domainMoved hm⟩
  all_goals refine finishEvent_effect ?_
  case urxCharacterReceived data mark => split <;> [exact .character data mark ‹_›; exact .nothing _]
  case uportGapExpiry =>
    split
    next h => rw [Bool.and_eq_true] at h; exact .gapExpiry h.1
    next => exact .nothing _
  case discardEnd => split <;> [exact .discardEnd; exact .nothing _]
  case upstreamBreak =>
    split
    next h => refine .upstreamBreak ?_; cases hl : s.uport.line <;> simp_all [LineState.breakMayCome]
    next => exact .nothing _
  case breakEnd => split <;> [exact .breakEnd; exact .nothing _]
  case transmitterChoice => exact .choice
  case refusalSent => split <;> [exact .refusalSent ‹_›; exact .nothing _]
  case replySent => split <;> [exact .replySent _ ‹_›; exact .nothing _; exact .nothing _; exact .nothing _]
  case noticeSent => split <;> [exact .noticeSent ‹_›; exact .nothing _]
  case parkTimerExpiry tag =>
    split
    next he => split <;> [exact .parkExpired he ‹_›; exact .nothing _]
    next => exact .nothing _
  case mgmtRead => exact effect_serve fun _ _ _ _ => body_of_serveRead
  case mgmtProbe => exact effect_serve fun _ _ _ _ h => by injection h with h; subst h; exact .unchanged _
  case mgmtWrite => exact effect_serve fun _ _ _ _ => body_of_serveWrite
  case uportFormatWrite => exact effect_serve fun _ _ _ _ => body_of_writeSettings (.inr (.inl rfl))
  case sportFormatWrite => exact effect_serve fun _ _ _ _ => body_of_writeSettings (.inr (.inr rfl))
  case enableWrite => exact effect_serve fun _ _ _ _ => body_of_writeEvents (.inl rfl)
  case clearWrite => exact effect_serve fun _ _ _ _ => body_of_writeEvents (.inr rfl)
  case windowWrite => exact effect_serve fun _ _ _ _ => body_of_writeWindows
  case domainConfigWrite => exact effect_serve fun _ _ _ _ => body_of_writeDomainConfigs
  case wake => exact effect_serve fun _ _ _ _ h => .domainMoved (domainMoved_wakeCommand (servedCommand_eq_ok h))
  case sleep => exact effect_serve fun _ _ _ _ h => .domainMoved (domainMoved_sleepCommand (servedCommand_eq_ok h))
  case clearFault => exact effect_serve fun _ _ _ _ h => body_of_clearFaultCommand (servedCommand_eq_ok h)
  case clearShadow => exact effect_serve fun _ _ _ _ h => body_of_clearShadowCommand (servedCommand_eq_ok h)
  case segmentReset =>
    exact effect_serve fun _ _ _ _ h => by
      rw [serveSegmentReset_eq] at h; injection h with h; subst h; exact .segmentReset
  case clearCounters =>
    exact effect_serve fun _ _ _ _ h => by
      rw [serveClearCounters_eq] at h; injection h with h; subst h; exact .countersCleared
  case shadowSelect => exact effect_serve fun _ _ _ _ => body_of_serveShadowSelect
  case shadowRead => exact effect_serve fun _ _ _ _ => body_of_serveShadowRead
  case insert => exact effect_serve fun _ _ _ _ => body_of_serveInsert
  case delete => exact effect_serve fun _ _ _ _ => body_of_serveDelete
  case warningExpiry d =>
    split
    next h =>
      refine .domainMoved (domainMoved_enterDraining [] ?_)
      cases hx : (s.dom d).state <;> simp_all [DomState.isWarning, DomState.takesActivity]
    next => exact .nothing _
  case minimumOffExpiry d =>
    split
    next h => exact .domainMoved (domainMoved_minimumOffDone h)
    all_goals exact .nothing _
  case settleExpiry d =>
    split
    next h =>
      split
      · exact .settleFails h
      · split
        · exact .domainMoved (domainMoved_setDom (.probes h))
        · exact .settleRestores h
    all_goals exact .nothing _
  case powerGoodChange => exact .pgFilter _ _
  case powerGoodFilteredChange input =>
    split
    next => split <;> [exact .pgFalls _ _; exact .pgFilter _ _]
    next => exact .nothing _
  case extInputChange => exact .inputFilter _ _ _
  case filteredChange input =>
    dsimp only
    split
    next => split <;> [exact .edgeSelected _ _; exact .inputFilter _ _ _]
    next => exact .nothing _
  case grant => split <;> [exact effect_arbitrate ‹_›; exact .nothing _]
  case recoveryGapReached =>
    split
    next h => split <;> [exact .phase (SPort.inPhase_eq_some h) ⟨rfl, rfl, rfl⟩; exact .nothing _]
    next => exact .nothing _
  case lineIdleWaitLimit =>
    split
    next h => exact effect_attemptEnds _ s.sport.line (SPort.inPhase_eq_some h) ⟨rfl, rfl, rfl⟩
    next => exact .nothing _
  case echoMismatch =>
    split
    next h => exact effect_attemptEnds _ _ (SPort.inPhase_eq_some h) ⟨rfl, rfl, rfl⟩
    next => exact .nothing _
  case commandComplete =>
    split
    next h => exact .phase (SPort.inPhase_eq_some h) ⟨rfl, rfl, rfl⟩
    next => exact .nothing _
  case answerTimeout =>
    split
    next h => exact effect_attemptEnds _ s.sport.line (SPort.inPhase_eq_some h) ⟨rfl, rfl, rfl⟩
    next => exact .nothing _
  case answerCharacterReceived data mark =>
    split
    next h => split <;> [exact effect_answerMarked data mark _ (SPort.inPhase_eq_some h); exact .nothing _]
    next => exact .nothing _
  case answerGapExpiry =>
    split
    next h =>
      split <;> [exact effect_attemptEnds _ s.sport.line (SPort.inPhase_eq_some h) ⟨rfl, rfl, rfl⟩; exact .nothing _]
    next => exact .nothing _
  case startEdge port => cases port <;> [exact .urxLine _ _; exact .sdlLine _ _]
  case returnToMark port => cases port <;> [exact .urxLine _ _; exact .sdlLine _ _]
  case answerCharacterStart =>
    split
    next h => split <;> [exact .phase (SPort.inPhase_eq_some h) ⟨rfl, rfl, rfl⟩; exact .nothing _]
    next => exact .nothing _

end Sys2Proof.Machine
end

section
/-! PROOFS. Frames of the operations the effects are written with, the induction over a step, and the laws at reset. -/
namespace Sys2Proof.Machine

/-! ## Frames -/

@[simp] theorem State.onLine_frame (s : State) (line : LineState) :
    (s.onLine line).entries = s.entries ∧ (s.onLine line).replyQueue = s.replyQueue
      ∧ (s.onLine line).parkLimit = s.parkLimit ∧ (s.onLine line).windows = s.windows ∧ (s.onLine line).hits = s.hits
      ∧ (s.onLine line).domains = s.domains ∧ (s.onLine line).pg = s.pg ∧ (s.onLine line).shadow = s.shadow
      ∧ (s.onLine line).sport = s.sport ∧ (s.onLine line).events = s.events ∧ (s.onLine line).straps = s.straps
      ∧ (s.onLine line).pending = s.pending ∧ (s.onLine line).uport = { s.uport with line := line } := by
  simp [State.onLine]

@[simp] theorem State.dom_onLine (s : State) (line : LineState) (d : DomainId) : (s.onLine line).dom d = s.dom d := rfl

@[simp] theorem State.powerGoodFalling_frame (s : State) (i : Fin 4) :
    (s.powerGoodFalling i).uport = s.uport ∧ (s.powerGoodFalling i).entries = s.entries
      ∧ (s.powerGoodFalling i).replyQueue = s.replyQueue ∧ (s.powerGoodFalling i).parkLimit = s.parkLimit
      ∧ (s.powerGoodFalling i).windows = s.windows ∧ (s.powerGoodFalling i).hits = s.hits
      ∧ (s.powerGoodFalling i).pg = s.pg ∧ (s.powerGoodFalling i).shadow = s.shadow
      ∧ (s.powerGoodFalling i).straps = s.straps ∧ (s.powerGoodFalling i).pending = s.pending := by
  unfold State.powerGoodFalling
  exact falls_frame i allDomains s

theorem State.dom_powerGoodFalling (s : State) (i : Fin 4) (d : DomainId) :
    (s.powerGoodFalling i).dom d = if (s.dom d).config.pgInput = some i then (s.dom d).powerLost else s.dom d := by
  unfold State.powerGoodFalling
  simpa using falls_dom i allDomains allDomains_nodup s d

/-- What the retry notes are after a power-good falling; the rest of the S-port stays (R92, R95, R138). -/
theorem State.powerGoodFalling_notes (s : State) (i : Fin 4) :
    ∃ notes, (s.powerGoodFalling i).sport = { s.sport with notes := notes }
      ∧ ∀ d, notes.get d =
          if (s.dom d).config.pgInput = some i ∧ (s.dom d).state.fallActs = true then none
          else s.sport.notes.get d := by
  unfold State.powerGoodFalling
  simpa using falls_notes i allDomains allDomains_nodup s

@[simp] theorem State.selectedEdge_frame (s : State) (i : Fin 4) :
    (s.selectedEdge i).uport = s.uport ∧ (s.selectedEdge i).entries = s.entries
      ∧ (s.selectedEdge i).replyQueue = s.replyQueue ∧ (s.selectedEdge i).parkLimit = s.parkLimit
      ∧ (s.selectedEdge i).windows = s.windows ∧ (s.selectedEdge i).hits = s.hits ∧ (s.selectedEdge i).pg = s.pg
      ∧ (s.selectedEdge i).shadow = s.shadow ∧ (s.selectedEdge i).sport = s.sport
      ∧ (s.selectedEdge i).straps = s.straps ∧ (s.selectedEdge i).pending = s.pending := by
  unfold State.selectedEdge
  simp only [edges_frame]
  split <;> simp

theorem State.dom_selectedEdge (s : State) (i : Fin 4) (d : DomainId) :
    (s.selectedEdge i).dom d =
      (s.dom d).edgeActed (inDomainSet (s.events.inputs.get i).config.activity d)
        (inDomainSet (s.events.inputs.get i).config.wake d) := by
  unfold State.selectedEdge
  simp only [edges_dom _ _ allDomains_nodup, mem_allDomains, if_true]
  split <;> simp

/-- The event unit after a selected edge: the edge-seen mark, and EXT_INPUT where raise event is yes (R156). -/
theorem State.selectedEdge_events (s : State) (i : Fin 4) :
    (s.selectedEdge i).events =
      if (s.events.inputs.get i).config.raise then
        ((s.setInput i { s.events.inputs.get i with seen := true }).raise .extInput).events
      else (s.setInput i { s.events.inputs.get i with seen := true }).events := by
  unfold State.selectedEdge
  simp only [edges_frame]
  split <;> rfl

@[simp] theorem State.drainAll_frame (s : State) :
    s.drainAll.uport = s.uport ∧ s.drainAll.entries = s.entries ∧ s.drainAll.replyQueue = s.replyQueue
      ∧ s.drainAll.parkLimit = s.parkLimit ∧ s.drainAll.windows = s.windows ∧ s.drainAll.hits = s.hits
      ∧ s.drainAll.pg = s.pg ∧ s.drainAll.shadow = s.shadow ∧ s.drainAll.sport = s.sport
      ∧ s.drainAll.straps = s.straps ∧ s.drainAll.pending = s.pending ∧ s.drainAll.events.enable = s.events.enable
      ∧ s.drainAll.events.inputs = s.events.inputs := by
  unfold State.drainAll
  exact drains_frame allDomains s

theorem State.dom_drainAll (s : State) (d : DomainId) :
    ((s.dom d).state = .draining ∧ NoWork s d → s.drainAll.dom d = (s.dom d).cooled)
      ∧ (¬((s.dom d).state = .draining ∧ NoWork s d) → s.drainAll.dom d = s.dom d) := by
  have h : s.drainAll.dom d = _ := drains_dom allDomains allDomains_nodup s d
  rw [← isDraining_iff, ← workEmpty_iff, h]
  exact ⟨fun hd => if_pos ⟨mem_allDomains d, hd⟩, fun hd => if_neg fun hn => hd hn.2⟩

@[simp] theorem State.takeBreak_frame (s : State) :
    s.takeBreak.entries = [] ∧ s.takeBreak.replyQueue = [] ∧ s.takeBreak.parkLimit = s.parkLimit
      ∧ s.takeBreak.windows = s.windows ∧ s.takeBreak.hits = s.hits ∧ s.takeBreak.pg = s.pg
      ∧ s.takeBreak.shadow = s.shadow ∧ s.takeBreak.sport = s.sport.orphan ∧ s.takeBreak.straps = s.straps
      ∧ s.takeBreak.pending = s.pending ∧ s.takeBreak.events.enable = s.events.enable
      ∧ s.takeBreak.events.inputs = s.events.inputs := by
  simp [State.takeBreak]

@[simp] theorem State.segmentReset_frame (s : State) (own : Byte) :
    (s.segmentReset own).uport = s.uport ∧ (s.segmentReset own).parkLimit = s.parkLimit
      ∧ (s.segmentReset own).windows = s.windows ∧ (s.segmentReset own).hits = s.hits
      ∧ (s.segmentReset own).pg = s.pg ∧ (s.segmentReset own).shadow = s.shadow
      ∧ (s.segmentReset own).events = s.events ∧ (s.segmentReset own).straps = s.straps
      ∧ (s.segmentReset own).pending = s.pending := by
  simp [State.segmentReset]

@[simp] theorem State.clearCounters_frame (s : State) :
    s.clearCounters.entries = s.entries ∧ s.clearCounters.replyQueue = s.replyQueue
      ∧ s.clearCounters.parkLimit = s.parkLimit ∧ s.clearCounters.windows = s.windows ∧ s.clearCounters.pg = s.pg
      ∧ s.clearCounters.shadow = s.shadow ∧ s.clearCounters.events = s.events ∧ s.clearCounters.straps = s.straps
      ∧ s.clearCounters.pending = s.pending := by
  simp [State.clearCounters]

/-- What the tick leaves alone, and the blocks whose measures of time it moves (log entry 1). -/
@[simp] theorem State.tick_frame (s : State) :
    s.tick.replyQueue = s.replyQueue ∧ s.tick.parkLimit = s.parkLimit ∧ s.tick.windows = s.windows
      ∧ s.tick.hits = s.hits ∧ s.tick.shadow = s.shadow ∧ s.tick.straps = s.straps ∧ s.tick.pending = s.pending
      ∧ s.tick.entries = s.entries.map Entry.tick ∧ s.tick.sport = { s.sport with line := s.sport.line.tick }
      ∧ s.tick.uport = { s.uport with line := s.uport.line.tick, tx := s.uport.tx.map Transmission.tick }
      ∧ s.tick.events = s.events.tick :=
  ⟨rfl, rfl, rfl, rfl, rfl, rfl, rfl, rfl, rfl, rfl, rfl⟩

@[simp] theorem State.dom_tick (s : State) (d : DomainId) :
    s.tick.dom d = { s.dom d with state := (s.dom d).state.tick } := get_tabulate _ d

@[simp] theorem UPort.sending_tick (u : UPort) (line : LineState) :
    UPort.sending { u with line := line, tx := u.tx.map Transmission.tick } = u.sending := by
  cases h : u.tx <;> simp [UPort.sending, Transmission.tick, h]

/-! ## One step -/

/-- Where every effect keeps a property that the waiting commands and notice-pending do not touch, and it holds after a
reset, every step keeps it. -/
theorem step_keeps {P : State → Prop} (hreset : ∀ pins waiting, P (State.powerOn pins waiting))
    (hpending : ∀ s waiting, P s → P (s.withPending waiting)) (htick : ∀ s, P s → P s.tick)
    (hannounce : ∀ s t, P t → P (announce s t)) (heffect : ∀ s t c, P s → Effect s c t → P t) {s t : State} (hs : P s)
    (h : step s = .next t) : P t := by
  unfold step at h
  split at h
  next c rest _ =>
    have hrest := hpending s rest hs
    by_cases hc : ∃ pins, c = .powerOnReset pins
    · obtain ⟨pins, rfl⟩ := hc
      cases h
      exact hreset pins _
    · obtain ⟨u, hu, he⟩ := exec_effect c (s.withPending rest) fun pins hp => hc ⟨pins, hp⟩
      rw [hu] at h
      cases h
      exact hannounce _ _ (heffect _ _ _ hrest he)
  next => cases h; exact htick s hs

/-- A command that answers a state is a power-on reset, or has one of the effects. -/
theorem exec_inversion {c : Instr} {s t : State} (h : exec c s = .next t) :
    (∃ pins, c = .powerOnReset pins ∧ t = State.powerOn pins s.pending) ∨ ∃ u, t = announce s u ∧ Effect s c u := by
  by_cases hc : ∃ pins, c = .powerOnReset pins
  · obtain ⟨pins, rfl⟩ := hc
    cases h
    exact .inl ⟨pins, rfl, rfl⟩
  · obtain ⟨u, hu, he⟩ := exec_effect c s fun pins hp => hc ⟨pins, hp⟩
    rw [hu] at h
    cases h
    exact .inr ⟨u, rfl, he⟩

/-! ## The laws at reset -/

section Reset
variable (pins : ResetPins) (waiting : List Instr)

@[simp] theorem State.dom_powerOn (d : DomainId) : (State.powerOn pins waiting).dom d = .powerOn :=
  get_replicate _ d

@[simp] theorem State.list_powerOn (d : DomainId) : (State.powerOn pins waiting).shadow.list d = [] :=
  get_replicate _ d

theorem requestTableOk_powerOn : RequestTableOk (State.powerOn pins waiting) := by
  simp [RequestTableOk, State.powerOn, UPort.sending]

theorem parkingOk_powerOn : ParkingOk (State.powerOn pins waiting) := by
  simp [ParkingOk, State.powerOn]

theorem segmentOk_powerOn : SegmentOk (State.powerOn pins waiting) := by
  simp [SegmentOk, State.powerOn]

theorem shadowOk_powerOn : ShadowOk (State.powerOn pins waiting) := by
  have hlists : (State.powerOn pins waiting).shadow.list = fun _ => [] := funext (State.list_powerOn pins waiting)
  refine ⟨?_, ?_⟩
  · simp [ShadowStore.used, ShadowStore.count, allDomains]
  · rw [ShadowStore.keys, hlists]
    exact List.nodup_nil

theorem cursorOk_powerOn : CursorOk (State.powerOn pins waiting) := by
  simp [CursorOk, State.powerOn]

theorem replayOk_powerOn : ReplayOk (State.powerOn pins waiting) := by
  simp [ReplayOk, Domain.powerOn]

theorem notesOk_powerOn : NotesOk (State.powerOn pins waiting) := by
  simp [NotesOk, State.powerOn]

theorem settingsOk_powerOn : SettingsOk (State.powerOn pins waiting) := by
  have hformat : Format.powerOn.ok = true := by decide
  refine ⟨hformat, hformat, by simp [State.powerOn], hformat, hformat, by simp [State.powerOn], by simp [State.powerOn],
    by simp [State.powerOn], by simp [State.powerOn], by simp [State.powerOn], fun d => ?_⟩
  rw [State.dom_powerOn]
  refine ⟨⟨by decide, by decide, by decide, by decide, by decide, ?_⟩, rfl⟩
  simp [Domain.powerOn, DomainConfig.powerOn]

theorem receiverOk_powerOn : ReceiverOk (State.powerOn pins waiting) := ⟨rfl, rfl⟩

theorem entriesOk_powerOn : EntriesOk (State.powerOn pins waiting) := by
  simp [EntriesOk, State.powerOn]

end Reset

/-- Settles O5, law by law; `State.powerOn` is by definition what the command leaves. -/
theorem everyLawHoldsAfterReset : Obligations.EveryLawHoldsAfterReset :=
  ⟨fun pins waiting =>
    ⟨requestTableOk_powerOn pins waiting, parkingOk_powerOn pins waiting, segmentOk_powerOn pins waiting,
      shadowOk_powerOn pins waiting, cursorOk_powerOn pins waiting, replayOk_powerOn pins waiting,
      notesOk_powerOn pins waiting, settingsOk_powerOn pins waiting, receiverOk_powerOn pins waiting,
      entriesOk_powerOn pins waiting⟩,
    rfl, fun _ _ => rfl⟩

end Sys2Proof.Machine
end

section
/-! PROOFS. What a character of URX, an admission and the end of an attempt can do: one inversion lemma each. -/
namespace Sys2Proof.Machine

/-! ## Admission (R38 to R42) -/

/-- How admission makes an entry: the state it leaves but for the new entry, the entry's snapshot, and the state it is
made in (R39 to R42, R62 to R65). -/
inductive AdmitsAs (s : State) : State → Option Snapshot → EntryState → Prop
  | answered (status : Status) : AdmitsAs s s none (.done status [])
  | waitsLocal : AdmitsAs s s none .waitingLocal
  | denied (i : Fin 32) : AdmitsAs s (s.countHit i) none (.done .denied [])
  | noDomain {i : Fin 32} (h : (s.windows.get i).domain = none) :
      AdmitsAs s (s.countHit i) (some ((s.windows.get i).snapshot i)) .queued
  | arrives {i : Fin 32} {d : DomainId} (h : (s.windows.get i).domain = some d) :
      AdmitsAs s ((s.countHit i).setDom d ((s.dom d).arrived (s.windows.get i).cls))
        (some ((s.windows.get i).snapshot i))
        ((arrivalVerdict (s.windows.get i).cls (s.dom d)).makes (s.countHit i).parkTime)

theorem State.forward_cases (s : State) (tag : Byte) (c : Command) :
    ∃ u snap made, AdmitsAs s u snap made ∧ s.forward tag c = u.enterTable tag c snap made := by
  unfold State.forward
  split
  next => exact ⟨_, _, _, .answered .noWindow, rfl⟩
  next i _ =>
    dsimp only
    split
    · split
      next h => exact ⟨_, _, _, .noDomain h, State.addEntry_enterTable _ _ _ _ rfl⟩
      next d h =>
        rw [State.arrive_eq, State.dom_countHit]
        exact ⟨_, _, _, .arrives h, rfl⟩
    · exact ⟨_, _, _, .denied i, rfl⟩

/-- What admission can do: the frame is refused, or it is given one new entry, where fewer than 16 are held and none has
its tag (R38). -/
theorem State.admission_cases (s : State) (tag : Byte) (c : Command) :
    (∃ cause, s.admission tag c = s.refuseFrame tag cause)
      ∨ s.entries.length < 16 ∧ (∀ x ∈ s.entries, x.tag ≠ tag)
        ∧ ∃ u snap made, AdmitsAs s u snap made ∧ s.admission tag c = u.enterTable tag c snap made := by
  unfold State.admission
  split
  · exact .inl ⟨_, rfl⟩
  next hroom =>
    split
    · exact .inl ⟨_, rfl⟩
    next hfresh =>
      refine .inr ⟨Nat.lt_of_not_le hroom, by simpa using hfresh, ?_⟩
      split
      · exact ⟨_, _, _, .answered .badRequest, rfl⟩
      · split
        · exact ⟨_, _, _, .waitsLocal, State.addEntry_enterTable _ _ _ _ rfl⟩
        · exact s.forward_cases tag c

@[simp] theorem State.enterTable_frame (s : State) (tag : Byte) (c : Command) (snap : Option Snapshot)
    (made : EntryState) :
    (s.enterTable tag c snap made).uport = s.uport ∧ (s.enterTable tag c snap made).parkLimit = s.parkLimit
      ∧ (s.enterTable tag c snap made).windows = s.windows ∧ (s.enterTable tag c snap made).hits = s.hits
      ∧ (s.enterTable tag c snap made).domains = s.domains ∧ (s.enterTable tag c snap made).pg = s.pg
      ∧ (s.enterTable tag c snap made).shadow = s.shadow ∧ (s.enterTable tag c snap made).sport = s.sport
      ∧ (s.enterTable tag c snap made).events = s.events ∧ (s.enterTable tag c snap made).straps = s.straps
      ∧ (s.enterTable tag c snap made).pending = s.pending
      ∧ (s.enterTable tag c snap made).entries = s.entries ++ [newEntry tag c snap made]
      ∧ (s.enterTable tag c snap made).replyQueue = s.replyQueue ++ if made.isDone then [tag] else [] := by
  simp [State.enterTable]

@[simp] theorem State.dom_enterTable (s : State) (tag : Byte) (c : Command) (snap : Option Snapshot)
    (made : EntryState) (d : DomainId) : (s.enterTable tag c snap made).dom d = s.dom d := rfl

/-- What admission leaves alone besides the new entry: everything but hit counters, domains and event classes. -/
theorem AdmitsAs.kept {s u : State} {snap : Option Snapshot} {made : EntryState} (h : AdmitsAs s u snap made) :
    u.uport = s.uport ∧ u.entries = s.entries ∧ u.replyQueue = s.replyQueue ∧ u.parkLimit = s.parkLimit
      ∧ u.windows = s.windows ∧ u.pg = s.pg ∧ u.shadow = s.shadow ∧ u.sport = s.sport ∧ u.straps = s.straps
      ∧ u.pending = s.pending := by
  cases h <;> simp

/-- The domains at an admission: one of them may have moved (R79). -/
theorem AdmitsAs.moves {s u : State} {snap : Option Snapshot} {made : EntryState} (h : AdmitsAs s u snap made)
    (d : DomainId) : Domain.Moves False (s.dom d) (u.dom d) := by
  cases h with
  | answered | waitsLocal | denied | noDomain => simpa using Domain.Moves.stays
  | @arrives i e =>
    rw [setDom_dom_of, State.dom_countHit]
    split
    next hd => subst hd; exact Domain.moves_arrived _ _ _
    next => exact .stays

/-! ## The forwarding candidate (R45, R129) -/

theorem State.oldestEligible_mem {s : State} {ahead l : List Entry} {e : Entry}
    (h : s.oldestEligible ahead l = some e) :
    ∃ pre, (∃ rest, l = pre ++ e :: rest) ∧ s.eligible (ahead ++ pre) e = true := by
  induction l generalizing ahead with
  | nil => cases h
  | cons a l ih =>
    unfold State.oldestEligible at h
    split at h
    next ha => cases h; exact ⟨[], ⟨l, rfl⟩, by simpa using ha⟩
    next =>
      obtain ⟨pre, ⟨rest, rfl⟩, he⟩ := ih h
      exact ⟨a :: pre, ⟨rest, rfl⟩, by simpa using he⟩

/-- The forwarding candidate is a QUEUED entry of the table, with a snapshot and a domain in service. -/
theorem mem_of_forwardCandidate {s : State} {e : Entry} (h : s.forwardCandidate = some e) :
    e ∈ s.entries ∧ e.state = .queued ∧ e.snapshot.isSome = true ∧ s.domainServes e.domain? = true := by
  obtain ⟨pre, ⟨rest, hl⟩, he⟩ := State.oldestEligible_mem h
  obtain ⟨hq, hsnap, hserves, -⟩ := (eligible_iff _ _ _).1 he
  exact ⟨by simp [hl], hq, hsnap, (domainServes_iff _ _).2 hserves⟩

/-! ## A character of URX (R18 to R25) -/

/-- What a character can do, its line already moved: the receiver alone changes, the frame under assembly is discarded,
or it is delivered to admission (R18 to R25). -/
inductive Received (s : State) : State → Prop
  | receiverOnly (rx : RxState) (asm : Assembly) (counters : UCounters) :
      Received s (s.withUport { s.uport with rx := rx, asm := asm, counters := counters })
  | discarded (count : UCounters → UCounters) (next : RxState) : Received s (s.discardFrame count next)
  | delivered (hrx : s.uport.rx = .check) :
      Received s
        ((s.withUport { s.uport.toState .hunt with counters := s.uport.counters.addFrame }).admission
          (s.uport.asm.header.getD 0 0) (headerCommand s.uport.asm.header s.uport.asm.payload))

theorem State.received_unchanged (s : State) : Received s s :=
  .receiverOnly s.uport.rx s.uport.asm s.uport.counters

theorem State.received_huntCharacter (s : State) (data : Byte) (mark : CharMark) :
    Received s (s.huntCharacter data mark) := by
  unfold State.huntCharacter
  split
  · exact .receiverOnly _ _ s.uport.counters
  · exact .receiverOnly s.uport.rx s.uport.asm _

theorem State.received_headerCharacter (s : State) (data : Byte) : Received s (s.headerCharacter data) := by
  unfold State.headerCharacter State.afterHeader
  split
  · exact .receiverOnly s.uport.rx _ s.uport.counters
  · split
    · exact .discarded _ _
    · split <;> exact .receiverOnly _ _ s.uport.counters

theorem State.received_payloadCharacter (s : State) (data : Byte) : Received s (s.payloadCharacter data) := by
  unfold State.payloadCharacter State.afterPayload
  split
  · exact .receiverOnly s.uport.rx _ s.uport.counters
  · exact .receiverOnly _ _ s.uport.counters

theorem State.received_checkCharacter {s : State} (data : Byte) (hrx : s.uport.rx = .check) :
    Received s (s.checkCharacter data) := by
  unfold State.checkCharacter
  split
  · exact .delivered hrx
  · exact .discarded _ _

theorem State.received_frameCharacter (s : State) (data : Byte) : Received s (s.frameCharacter data) := by
  unfold State.frameCharacter
  split
  next => exact s.received_headerCharacter data
  next => exact s.received_payloadCharacter data
  next hrx => exact State.received_checkCharacter data hrx
  all_goals exact s.received_unchanged

theorem State.received_receive (s : State) (data : Byte) (mark : CharMark) : Received s (s.receive data mark) := by
  unfold State.receive
  split
  case h_1 => exact s.received_huntCharacter data mark
  case h_2 => exact s.received_unchanged
  all_goals
    cases mark with
    | good => exact s.received_frameCharacter data
    | parity | framing => exact .discarded _ _

/-! ## The end of an attempt (R47, R135 to R142) -/

/-- What an entry's outcome can do to the table: the entry is answered, or it is retried, its domain in service
(R47). -/
theorem State.entryOutcome_cases (s : State) (e : Entry) (abort : Bool) (o : AttemptOutcome) :
    (∃ status reply cs, s.entryOutcome e abort o = (s.finishEntry e.tag status reply).raiseAll cs)
      ∨ s.domainServes e.domain? = true ∧ s.entryOutcome e abort o = s.requeue e.tag := by
  unfold State.entryOutcome
  split
  · exact .inl ⟨_, _, [], rfl⟩
  · split
    · exact .inl ⟨_, _, [], rfl⟩
    · split
      · split
        next hserves => exact .inr ⟨hserves, rfl⟩
        next => exact .inl ⟨_, _, [], rfl⟩
      · unfold State.segmentError
        split
        · exact .inl ⟨_, _, [.segmentError], rfl⟩
        · exact .inl ⟨_, _, [], rfl⟩

/-- What the delivery of an outcome can do (R47, R88, R93, R115 to R117, R137 to R139); `s` is the state with the S-port
already FREE. -/
inductive Delivered (s : State) (x : Exchange) (o : AttemptOutcome) : State → Prop
  | ignored (h : ∀ tag e abort, x.originator = .entry tag → s.entry? tag = some e → e.state ≠ .active abort) :
      Delivered s x o s
  | entry {e : Entry} {abort : Bool} (ho : x.originator = .entry e.tag) (he : s.entry? e.tag = some e)
      (hs : e.state = .active abort) :
      Delivered s x o (((s.entryOutcome e abort o).offerOutcome x o).drainDomain e.domain?)
  | orphan (ho : x.originator = .orphan) : Delivered s x o ((s.offerOutcome x o).drainDomain x.domain)
  | probeRetried {d : DomainId} {target : Byte} (n : Nat) (ho : x.originator = .check d)
      (hs : (s.dom d).state = .checking target true) : Delivered s x o (s.setNote d .probe n)
  | probePassed {d : DomainId} {target : Byte} (ho : x.originator = .check d)
      (hs : (s.dom d).state = .checking target true) : Delivered s x o ((s.clearNote d).enterRestoring d)
  | probeFailed {d : DomainId} {target : Byte} (ho : x.originator = .check d)
      (hs : (s.dom d).state = .checking target true) :
      Delivered s x o (finishFaulted s (s.attemptFails d .checkFailed))
  | writeRetried {d : DomainId} {key k : Key} (n : Nat) (ho : x.originator = .replay d key)
      (hs : (s.dom d).state = .restoring k true) : Delivered s x o (s.setNote d (.replay k) n)
  | writeDone {d : DomainId} {key k : Key} (cs : List EventClass) (ho : x.originator = .replay d key)
      (hs : (s.dom d).state = .restoring k true) :
      Delivered s x o (((s.clearNote d).raiseAll cs).advanceReplay d k)
  | writeFailed {d : DomainId} {key k : Key} (ho : x.originator = .replay d key)
      (hs : (s.dom d).state = .restoring k true) :
      Delivered s x o (finishFaulted (s.clearNote d) ((s.clearNote d).attemptFails d .restoreFailed))

theorem delivered_ignored {s : State} {x : Exchange} (o : AttemptOutcome) (h : ∀ tag, x.originator ≠ .entry tag) :
    Delivered s x o s := .ignored fun tag _ _ ho => absurd ho (h tag)

theorem State.delivered_deliver (s : State) (x : Exchange) (o : AttemptOutcome) :
    Delivered s x o (s.deliver x o) := by
  unfold State.deliver
  split
  next tag ho =>
    unfold State.deliverEntry
    split
    next e he =>
      obtain ⟨-, rfl⟩ := mem_of_entry? s tag e he
      split
      case h_1 abort hs => exact .entry ho he hs
      all_goals
        next hs =>
          refine .ignored fun tag' e' abort ho' he' => ?_
          have htag : e.tag = tag' := by rw [ho] at ho'; injection ho'
          rw [← htag, he] at he'
          cases he'
          simp [hs]
    next he =>
      refine .ignored fun tag' e' _ ho' he' => ?_
      have htag : tag = tag' := by rw [ho] at ho'; injection ho'
      rw [← htag, he] at he'
      cases he'
  next ho => exact .orphan ho
  next d ho =>
    have hnot := delivered_ignored (s := s) o (x := x) (by simp [ho])
    unfold State.deliverCheck
    split
    case h_1 target hs =>
      split
      · exact .probeRetried _ ho hs
      · split
        · exact .probePassed ho hs
        · exact .probeFailed ho hs
    all_goals exact hnot
  next d key ho =>
    have hnot := delivered_ignored (s := s) o (x := x) (by simp [ho])
    unfold State.deliverReplay
    split
    case h_1 k hs =>
      split
      · exact .writeRetried _ ho hs
      · unfold State.replayOutcome
        split
        · exact .writeDone [] ho hs
        · split
          · exact .writeFailed ho hs
          · exact .writeDone [.restoreSkip] ho hs
    all_goals exact hnot

end Sys2Proof.Machine
end

section
/-! PROOFS. The request table's law is kept by every step. -/
namespace Sys2Proof.Machine

/-! ## The law, and what it depends on -/

/-- What the law reads of an entry: its tag, and whether it is DONE. -/
def Entry.mark (e : Entry) : Byte × Bool := (e.tag, e.state.isDone)

/-- The marks of entries of which those `p` names have become DONE. -/
def finishedMarks (p : Entry → Bool) (l : List Entry) : List (Byte × Bool) :=
  l.map fun e => (e.tag, p e || e.state.isDone)

theorem finishedMarks_false (l : List Entry) : finishedMarks (fun _ => false) l = l.map Entry.mark := by
  simp [finishedMarks, Entry.mark]

theorem mem_marks {l : List Entry} {tag : Byte} {b : Bool} :
    (tag, b) ∈ l.map Entry.mark ↔ ∃ e ∈ l, e.tag = tag ∧ e.state.isDone = b := by
  simp [Entry.mark]

/-- The law read from the marks of the entries. -/
theorem requestTableOk_iff_marks (s : State) :
    RequestTableOk s ↔
      (s.entries.map Entry.mark).length ≤ 16 ∧ ((s.entries.map Entry.mark).map Prod.fst).Nodup ∧ s.replyQueue.Nodup
        ∧ (∀ tag ∈ s.replyQueue, (tag, true) ∈ s.entries.map Entry.mark)
        ∧ (∀ tag, s.uport.sending = some (.reply tag) →
            tag ∉ s.replyQueue ∧ (tag, true) ∈ s.entries.map Entry.mark)
        ∧ ∀ tag, (tag, true) ∈ s.entries.map Entry.mark →
            tag ∈ s.replyQueue ∨ s.uport.sending = some (.reply tag) := by
  have htags : (s.entries.map Entry.mark).map Prod.fst = s.entries.map (·.tag) := by
    rw [List.map_map]; rfl
  rw [htags, List.length_map]
  simp only [mem_marks, RequestTableOk]
  refine and_congr_right fun _ => and_congr_right fun _ => and_congr_right fun _ => and_congr_right fun _ =>
    and_congr_right fun _ => ⟨fun h tag => ?_, fun h e he hd => h e.tag ⟨e, he, rfl, hd⟩⟩
  rintro ⟨e, he, rfl, hd⟩
  exact h e he hd

/-- Entries that were not DONE become DONE and join the reply queue; every tag stays (R43). -/
theorem RequestTableOk.finished {s t : State} (h : RequestTableOk s) {p : Entry → Bool}
    (hp : ∀ e ∈ s.entries, p e = true → e.state.isDone = false)
    (he : t.entries.map Entry.mark = finishedMarks p s.entries)
    (hq : t.replyQueue = s.replyQueue ++ (s.entries.filter p).map (·.tag))
    (hs : t.uport.sending = s.uport.sending) : RequestTableOk t := by
  obtain ⟨hroom, htags, hqueue, hdone, hsending, hwaits⟩ := h
  have hmem : ∀ tag, (tag, true) ∈ finishedMarks p s.entries ↔
      ∃ e ∈ s.entries, e.tag = tag ∧ (p e = true ∨ e.state.isDone = true) := by
    simp [finishedMarks]
  -- a finished tag belongs to no entry that was DONE before
  have hfresh : ∀ e ∈ s.entries, p e = true → ∀ x ∈ s.entries, x.state.isDone = true → x.tag ≠ e.tag := by
    intro e hmem hpe x hx hxd htag
    rw [eq_of_tag _ htags x e hx hmem htag, hp e hmem hpe] at hxd
    cases hxd
  rw [requestTableOk_iff_marks, he, hq, hs]
  refine ⟨by simpa [finishedMarks] using hroom, ?_, ?_, ?_, ?_, ?_⟩
  · rw [show (finishedMarks p s.entries).map Prod.fst = s.entries.map (·.tag) by simp [finishedMarks]]
    exact htags
  · refine List.nodup_append'.2 ⟨hqueue, htags.sublist (List.filter_sublist.map _), ?_⟩
    intro tag hin hout
    obtain ⟨x, hx, rfl, hxd⟩ := hdone tag hin
    obtain ⟨e, hef, htag⟩ := List.mem_map.1 hout
    obtain ⟨hem, hpe⟩ := List.mem_filter.1 hef
    exact hfresh e hem hpe x hx hxd htag.symm
  · intro tag hin
    rw [hmem]
    rcases List.mem_append.1 hin with hin | hin
    · obtain ⟨x, hx, htag, hxd⟩ := hdone tag hin
      exact ⟨x, hx, htag, .inr hxd⟩
    · obtain ⟨e, hef, htag⟩ := List.mem_map.1 hin
      obtain ⟨hem, hpe⟩ := List.mem_filter.1 hef
      exact ⟨e, hem, htag, .inl hpe⟩
  · intro tag htx
    obtain ⟨hnot, x, hx, rfl, hxd⟩ := hsending tag htx
    refine ⟨fun hin => ?_, (hmem _).2 ⟨x, hx, rfl, .inr hxd⟩⟩
    rcases List.mem_append.1 hin with hin | hin
    · exact hnot hin
    · obtain ⟨e, hef, htag⟩ := List.mem_map.1 hin
      obtain ⟨hem, hpe⟩ := List.mem_filter.1 hef
      exact hfresh e hem hpe x hx hxd htag.symm
  · intro tag hin
    obtain ⟨e, hem, rfl, hpe | hd⟩ := (hmem tag).1 hin
    · exact .inl (List.mem_append_right _ (List.mem_map_of_mem (List.mem_filter.2 ⟨hem, hpe⟩)))
    · exact (hwaits e hem hd).imp_left (List.mem_append_left _)

/-- The law depends on the marks of the entries, the reply queue and the source of the frame on UTX alone. -/
theorem RequestTableOk.congr {s t : State} (h : RequestTableOk s)
    (he : t.entries.map Entry.mark = s.entries.map Entry.mark) (hq : t.replyQueue = s.replyQueue)
    (hs : t.uport.sending = s.uport.sending) : RequestTableOk t :=
  h.finished (p := fun _ => false) (by simp) (by rw [he, finishedMarks_false]) (by simp [hq]) hs

/-- The law where entries, reply queue and UTX all stand. -/
theorem RequestTableOk.same {s t : State} (h : RequestTableOk s) (he : t.entries = s.entries)
    (hq : t.replyQueue = s.replyQueue) (hs : t.uport.sending = s.uport.sending) : RequestTableOk t :=
  h.congr (by rw [he]) hq hs

@[simp] theorem sending_announce (s t : State) : (announce s t).uport.sending = t.uport.sending := by
  rw [announce_uport]; rfl

theorem RequestTableOk.announce {t : State} (s : State) (h : RequestTableOk t) : RequestTableOk (announce s t) :=
  h.same (by simp) (by simp) (by simp)

/-! ## Entries answered -/

theorem State.setEntryState_marks (s : State) (tag : Byte) (x : EntryState) :
    (s.setEntryState tag x).entries.map Entry.mark =
      s.entries.map fun e => (e.tag, if e.tag = tag then x.isDone else e.state.isDone) := by
  simp only [State.setEntryState, State.withEntries_entries, List.map_map]
  refine List.map_congr_left fun e _ => ?_
  by_cases h : e.tag = tag <;> simp [Entry.mark, h]

/-- With one entry to a tag, the entries of an entry's tag are that entry. -/
theorem filter_tag_eq {l : List Entry} (hn : (l.map (·.tag)).Nodup) {e : Entry} (he : e ∈ l) :
    l.filter (·.tag == e.tag) = [e] := by
  induction l with
  | nil => simp at he
  | cons a l ih =>
    obtain ⟨ha, hn⟩ := List.nodup_cons.1 hn
    rcases List.mem_cons.1 he with rfl | he
    · have : l.filter (·.tag == e.tag) = [] := by
        simp only [List.filter_eq_nil_iff, beq_iff_eq]
        exact fun x hx hxe => ha (List.mem_map.2 ⟨x, hx, hxe⟩)
      simp [this]
    · have : a.tag ≠ e.tag := fun h => ha (List.mem_map.2 ⟨e, he, h.symm⟩)
      simp [this, ih hn he]

/-- An entry that was not DONE is answered (R43). -/
theorem RequestTableOk.finishEntry {s : State} (h : RequestTableOk s) {e : Entry} (he : e ∈ s.entries)
    (hd : e.state.isDone = false) (status : Status) (reply : List Byte) :
    RequestTableOk (s.finishEntry e.tag status reply) := by
  have htags := h.2.1
  refine h.finished (p := (·.tag == e.tag)) ?_ ?_ ?_ (by simp)
  · intro x hx hp
    rw [eq_of_tag _ htags x e hx he (by simpa using hp), hd]
  · rw [State.finishEntry, State.withReplyQueue_entries, State.setEntryState_marks]
    refine List.map_congr_left fun x _ => ?_
    by_cases hx : x.tag = e.tag <;> simp [hx, EntryState.isDone]
  · simp [State.finishEntry, filter_tag_eq htags he]

/-- Entries that were not DONE are answered together, in arrival order (R43). -/
theorem RequestTableOk.finishWhere {s : State} (h : RequestTableOk s) (p : Entry → Bool) (status : Status) :
    RequestTableOk (s.finishWhere p status) := by
  refine h.finished (p := fun e => p e && !e.state.isDone) (fun e _ hp => by simp_all) ?_ (by simp [State.finishWhere])
    (by simp)
  simp only [State.finishWhere, State.withReplyQueue_entries, State.withEntries_entries, List.map_map]
  refine List.map_congr_left fun e _ => ?_
  dsimp only [Function.comp]
  split <;> simp_all [Entry.mark, EntryState.isDone]

/-- An entry whose state is replaced by one that is DONE just where it was keeps its mark. -/
theorem RequestTableOk.setEntryState {s : State} (h : RequestTableOk s) {e : Entry} (he : e ∈ s.entries)
    {x : EntryState}
    (hx : x.isDone = e.state.isDone) : RequestTableOk (s.setEntryState e.tag x) := by
  refine h.congr ?_ (by simp) (by simp)
  rw [State.setEntryState_marks]
  refine List.map_congr_left fun y hy => ?_
  by_cases htag : y.tag = e.tag
  · rw [if_pos htag, hx, ← eq_of_tag _ h.2.1 y e hy he htag]; rfl
  · rw [if_neg htag]; rfl

/-! ## A new entry -/

/-- A new entry with a fresh tag, in the reply queue where it is made DONE (R38, R43). -/
theorem RequestTableOk.added {s t : State} (h : RequestTableOk s) (hroom : s.entries.length < 16) {e : Entry}
    (hfresh : ∀ x ∈ s.entries, x.tag ≠ e.tag) (he : t.entries = s.entries ++ [e])
    (hq : t.replyQueue = s.replyQueue ++ if e.state.isDone then [e.tag] else [])
    (hs : t.uport.sending = s.uport.sending) : RequestTableOk t := by
  obtain ⟨-, htags, hqueue, hdone, hsending, hwaits⟩ := h
  have hnotin : e.tag ∉ s.replyQueue := fun hin => by
    obtain ⟨x, hx, htag, -⟩ := hdone _ hin
    exact hfresh x hx htag
  refine ⟨by simp [he]; omega, ?_, ?_, ?_, ?_, ?_⟩
  · rw [he, List.map_append]
    refine List.nodup_append'.2 ⟨htags, by simp, ?_⟩
    simpa [List.Disjoint] using hfresh
  · rw [hq]
    split
    · exact List.nodup_append'.2
        ⟨hqueue, by simp, by simpa [List.Disjoint] using fun tag => by rintro h rfl; exact hnotin h⟩
    · simpa using hqueue
  · intro tag hin
    rw [hq] at hin
    rw [he]
    rcases List.mem_append.1 hin with hin | hin
    · obtain ⟨x, hx, hxt⟩ := hdone tag hin
      exact ⟨x, List.mem_append_left _ hx, hxt⟩
    · split at hin
      next hd => exact ⟨e, by simp, (List.mem_singleton.1 hin).symm, hd⟩
      next => cases hin
  · intro tag htx
    rw [hs] at htx
    obtain ⟨hnot, x, hx, htag, hxd⟩ := hsending tag htx
    refine ⟨fun hin => ?_, x, by simp [he, hx], htag, hxd⟩
    rw [hq] at hin
    rcases List.mem_append.1 hin with hin | hin
    · exact hnot hin
    · split at hin
      · rw [List.mem_singleton.1 hin] at htag
        exact hfresh x hx htag
      · cases hin
  · intro x hx hxd
    rw [he] at hx
    rw [hq, hs]
    rcases List.mem_append.1 hx with hx | hx
    · exact (hwaits x hx hxd).imp_left (List.mem_append_left _)
    · rw [List.mem_singleton.1 hx] at hxd ⊢
      exact .inl (by simp [hxd])

/-! ## Admission and the receiver -/

theorem RequestTableOk.admission {s : State} (h : RequestTableOk s) (tag : Byte) (c : Command) :
    RequestTableOk (s.admission tag c) := by
  obtain ⟨cause, ha⟩ | ⟨hroom, hfresh, u, snap, made, hu, ha⟩ := s.admission_cases tag c <;> rw [ha]
  · refine h.same (by simp) (by simp) ?_
    unfold State.refuseFrame
    split <;> rfl
  · obtain ⟨hport, hentries, hqueue, -⟩ := hu.kept
    exact h.added hroom (e := newEntry tag c snap made) hfresh (by simp [hentries]) (by simp [hqueue]; rfl)
      (by simp [hport])

theorem RequestTableOk.received {s t : State} (h : RequestTableOk s) (ht : Received s t) : RequestTableOk t := by
  cases ht with
  | receiverOnly => exact h.same rfl rfl rfl
  | discarded => exact h.same (by simp) (by simp) rfl
  | delivered =>
    refine RequestTableOk.admission ?_ _ _
    exact h.same rfl rfl rfl

/-! ## The transmitter -/

/-- The FREE transmitter's choice: a reply that begins leaves the queue (R28, R30). -/
theorem RequestTableOk.transmitterChoice {s : State} (h : RequestTableOk s) : RequestTableOk s.transmitterChoice := by
  unfold State.transmitterChoice
  split
  · exact h
  next hfree =>
    have hnone : s.uport.sending = none := by rw [UPort.sending, hfree]; rfl
    obtain ⟨hroom, htags, hqueue, hdone, hsending, hwaits⟩ := h
    -- a frame that is no reply leaves the table's law to the queue alone
    have hother : ∀ (u : UPort), (∀ tag, u.sending ≠ some (.reply tag)) → RequestTableOk (s.withUport u) :=
      fun u hu => ⟨hroom, htags, hqueue, hdone, fun tag ht => absurd ht (hu tag), fun e he hd =>
        .inl ((hwaits e he hd).resolve_right (by simp [hnone]))⟩
    split
    · exact hother _ fun tag ht => by simp [UPort.sending] at ht
    · split
      · exact hother _ fun tag ht => by simp [UPort.sending] at ht
      · split
        · exact ⟨hroom, htags, hqueue, hdone, hsending, hwaits⟩
        next tag rest hq =>
          split
          next =>
            rw [hq] at hqueue hdone hwaits
            obtain ⟨hnot, hrest⟩ := List.nodup_cons.1 hqueue
            refine ⟨hroom, htags, hrest, fun x hx => hdone x (List.mem_cons_of_mem _ hx), fun x hx => ?_, ?_⟩
            · have hx : tag = x := by simpa [State.send, UPort.sending] using hx
              subst hx
              exact ⟨hnot, hdone tag List.mem_cons_self⟩
            · intro e he hd
              rcases List.mem_cons.1 ((hwaits e he hd).resolve_right (by simp [hnone])) with htag | hin
              · exact .inr (by simp [State.send, UPort.sending, htag])
              · exact .inl hin
          next => exact ⟨hroom, htags, hq ▸ hqueue, hq ▸ hdone, hsending, hq ▸ hwaits⟩

/-- The end of a frame that is no reply (R29, R31). -/
theorem RequestTableOk.frameGone {s : State} (h : RequestTableOk s) (hs : ∀ tag, s.uport.sending ≠ some (.reply tag))
    {u : UPort} (hu : u.tx = none) : RequestTableOk (s.withUport u) := by
  obtain ⟨hroom, htags, hqueue, hdone, -, hwaits⟩ := h
  have hnone : u.sending = none := by rw [UPort.sending, hu]; rfl
  exact ⟨hroom, htags, hqueue, hdone, fun tag ht => by simp [hnone] at ht, fun e he hd =>
    .inl ((hwaits e he hd).resolve_right (hs _))⟩

theorem UPort.takeUpAfter_sending (u : UPort) (tag : Byte) : (u.takeUpAfter tag).sending = u.sending := by
  unfold UPort.takeUpAfter
  split
  · split <;> rfl
  · rfl

/-- The reply sent to its end: its entry and tag are freed (R30, R44). -/
theorem RequestTableOk.replyGone {s : State} (h : RequestTableOk s) {tag : Byte}
    (hs : s.uport.sending = some (.reply tag)) : RequestTableOk (s.replyGone tag) := by
  obtain ⟨hroom, htags, hqueue, hdone, hsending, hwaits⟩ := h
  refine RequestTableOk.transmitterChoice
    ⟨(List.length_filter_le _ _).trans hroom, htags.sublist (List.filter_sublist.map _), hqueue, ?_, ?_, ?_⟩
  · intro x hx
    obtain ⟨e, he, htag, hd⟩ := hdone x hx
    have hne : e.tag ≠ tag := fun h => (hsending tag hs).1 (by rw [← h, htag]; exact hx)
    exact ⟨e, List.mem_filter.2 ⟨he, by simpa using hne⟩, htag, hd⟩
  · intro x hx
    rw [(State.freeEntry_frame _ _).1, State.withUport_uport, UPort.takeUpAfter_sending] at hx
    simp [UPort.sending] at hx
  · intro e he hd
    obtain ⟨he, hne⟩ := List.mem_filter.1 he
    refine .inl ((hwaits e he hd).resolve_right fun hx => ?_)
    rw [hs] at hx
    simp_all

/-! ## Outcomes -/

theorem mem_of_oldestLocal {s : State} {e : Entry} (h : s.oldestLocal = some e) :
    e ∈ s.entries ∧ e.state = .waitingLocal := by
  refine ⟨List.mem_of_find?_eq_some h, ?_⟩
  have := List.find?_some h
  cases hs : e.state <;> simp_all [EntryState.isLocal]

theorem State.release_marks (s : State) (d : DomainId) :
    (s.release d).entries.map Entry.mark = s.entries.map Entry.mark := by
  simp only [State.release, State.withEntries_entries, List.map_map]
  refine List.map_congr_left fun e _ => ?_
  cases h : e.state <;> by_cases hd : e.domain? = some d <;>
    simp [Entry.mark, EntryState.isParked, EntryState.isDone, h, hd]

theorem RequestTableOk.release {s : State} (h : RequestTableOk s) (d : DomainId) : RequestTableOk (s.release d) :=
  h.congr (s.release_marks d) (by simp) (by simp)

theorem RequestTableOk.reachOn {s : State} (h : RequestTableOk s) (d : DomainId) : RequestTableOk (s.reachOn d) := by
  have h1 := RequestTableOk.release (s := s.setDom d { s.dom d with
      state := .on (s.dom d).config.idleLoad, attempt := 0, pendingWake := false,
      wakeCount := satInc (s.dom d).wakeCount }) (h.same (by simp) (by simp) (by simp)) d
  exact h1.same rfl rfl rfl

theorem RequestTableOk.enterRestoring {s : State} (h : RequestTableOk s) (d : DomainId) :
    RequestTableOk (s.enterRestoring d) := by
  unfold State.enterRestoring
  split
  · exact h.same (by simp) (by simp) (by simp)
  · exact h.reachOn d

theorem RequestTableOk.advanceReplay {s : State} (h : RequestTableOk s) (d : DomainId) (k : Key) :
    RequestTableOk (s.advanceReplay d k) := by
  unfold State.advanceReplay
  split
  · exact h.same (by simp) (by simp) (by simp)
  · exact h.reachOn d

theorem RequestTableOk.attemptFails {s : State} (h : RequestTableOk s) (r : State) (d : DomainId) (cause : FaultCause) :
    RequestTableOk (finishFaulted r (s.attemptFails d cause)) :=
  RequestTableOk.finishWhere (h.same (by simp) (by simp) (by simp)) _ _

theorem RequestTableOk.requeue {s : State} (h : RequestTableOk s) {e : Entry} (he : e ∈ s.entries)
    (hd : e.state.isDone = false) : RequestTableOk (s.requeue e.tag) := by
  refine h.congr ?_ (by simp) (by simp)
  simp only [State.requeue, State.withEntries_entries, List.map_map]
  refine List.map_congr_left fun x hx => ?_
  by_cases htag : x.tag = e.tag
  · rw [eq_of_tag _ h.2.1 x e hx he htag]
    simp [Entry.mark, hd, show EntryState.queued.isDone = false from rfl]
  · simp [htag]

theorem RequestTableOk.entryOutcome {s : State} (h : RequestTableOk s) {e : Entry} (he : e ∈ s.entries)
    (hd : e.state.isDone = false) (abort : Bool) (o : AttemptOutcome) : RequestTableOk (s.entryOutcome e abort o) := by
  obtain ⟨status, reply, cs, ht⟩ | ⟨-, ht⟩ := s.entryOutcome_cases e abort o <;> rw [ht]
  · exact (h.finishEntry he hd status reply).same (by simp) (by simp) (by simp)
  · exact h.requeue he hd

theorem RequestTableOk.delivered {s t : State} {x : Exchange} {o : AttemptOutcome} (h : RequestTableOk s)
    (ht : Delivered s x o t) : RequestTableOk t := by
  cases ht with
  | ignored => exact h
  | @entry _ abort _ he hs =>
    exact (h.entryOutcome (mem_of_entry? s _ _ he).1 (by rw [hs]; rfl) abort o).same (by simp) (by simp) (by simp)
  | probePassed => exact RequestTableOk.enterRestoring (h.same (by simp) (by simp) (by simp)) _
  | probeFailed => exact h.attemptFails s _ _
  | writeDone => exact RequestTableOk.advanceReplay (h.same (by simp) (by simp) (by simp)) _ _
  | writeFailed => exact RequestTableOk.attemptFails (h.same (by simp) (by simp) (by simp)) _ _ _
  | _ => exact h.same (by simp) (by simp) (by simp)

/-! ## Every effect -/

theorem RequestTableOk.segmentReset {s : State} (h : RequestTableOk s) (own : Byte) :
    RequestTableOk (s.segmentReset own) := by
  refine h.finished (p := (·.resetAborts own)) ?_ ?_ (s.segmentReset_replyQueue own) (by simp)
  · intro e _ hp
    have := e.resetAborts_and_not_done own
    rw [hp] at this
    simpa using this
  · rw [State.segmentReset_entries, List.map_map]
    refine List.map_congr_left fun e _ => ?_
    unfold Entry.underReset
    cases hs : e.state <;> by_cases hp : e.resetAborts own = true <;>
      simp [Entry.mark, EntryState.isDone, EntryState.isActive, hs, hp]

theorem RequestTableOk.body {s t : State} {tag : Byte} {c : Instr} (h : RequestTableOk s) (hb : Body s tag c t) :
    RequestTableOk t := by
  cases hb with
  | domainMoved hm =>
    obtain ⟨d, cs, y, -, rfl⟩ := hm
    exact h.same (by simp) (by simp) (by simp)
  | segmentReset => exact h.segmentReset tag
  | countersCleared => exact h.same (by simp) (by simp) rfl
  | _ => exact h.same (by simp) (by simp) (by simp [UPort.sending])

/-- The entry a row serves is still in the table, and not DONE, when its body has acted (R54). -/
theorem Body.entry_waits {s t : State} {e : Entry} {c : Instr} (he : s.oldestLocal = some e) (hb : Body s e.tag c t) :
    ∃ x ∈ t.entries, x.tag = e.tag ∧ x.state.isDone = false := by
  obtain ⟨hmem, hlocal⟩ := mem_of_oldestLocal he
  have hwaits : e.state.isDone = false := by rw [hlocal]; rfl
  cases hb with
  | domainMoved hm =>
    obtain ⟨d, cs, y, -, rfl⟩ := hm
    exact ⟨e, by simpa using hmem, rfl, hwaits⟩
  | segmentReset =>
    refine ⟨e, ?_, rfl, hwaits⟩
    rw [State.segmentReset_entries]
    refine List.mem_map.2 ⟨e, hmem, ?_⟩
    simp [Entry.underReset, Entry.resetAborts, hlocal, EntryState.isQueued, EntryState.isParked, EntryState.isLocal,
      EntryState.isActive]
  | _ => exact ⟨e, by simpa using hmem, rfl, hwaits⟩

theorem EntryState.isDone_of_isParked {x : EntryState} (h : x.isParked = true) : x.isDone = false := by
  cases x <;> simp_all [EntryState.isParked, EntryState.isDone]

theorem RequestTableOk.effect {s t : State} {c : Instr} (h : RequestTableOk s) (he : Effect s c t) :
    RequestTableOk t := by
  cases he with
  | nothing => exact h
  | character data mark =>
    refine RequestTableOk.received ?_ (State.received_receive (s.onLine _) data mark)
    exact h.same rfl rfl rfl
  | upstreamBreak =>
    refine ⟨by simp, by simp, by simp, by simp, ?_, by simp⟩
    rw [State.takeBreak_uport]
    simp [UPort.takeBreak, UPort.sending]
  | choice => exact h.transmitterChoice
  | refusalSent hs => exact (h.frameGone (by simp [hs]) rfl).transmitterChoice
  | noticeSent hs => exact (h.frameGone (by simp [hs]) rfl).transmitterChoice
  | replySent tag hs => exact h.replyGone hs
  | @parkExpired tag e hf hp =>
    obtain ⟨hmem, rfl⟩ := mem_of_entry? s _ e hf
    exact (h.finishEntry hmem (EntryState.isDone_of_isParked hp) _ _).same rfl rfl rfl
  | answered hl hb =>
    obtain ⟨x, hx, htag, hd⟩ := hb.entry_waits hl
    rw [← htag]
    exact (h.body hb).finishEntry hx hd _ _
  | notServed hl =>
    obtain ⟨hmem, hlocal⟩ := mem_of_oldestLocal hl
    exact RequestTableOk.finishEntry (h.same rfl rfl rfl) hmem (by rw [hlocal]; rfl) _ _
  | domainMoved hm =>
    obtain ⟨d, cs, y, -, rfl⟩ := hm
    exact h.same (by simp) (by simp) (by simp)
  | settleFails => exact h.attemptFails s _ _
  | settleRestores => exact h.enterRestoring _
  | pgFalls => exact RequestTableOk.finishWhere (h.same (by simp) (by simp) (by simp)) _ _
  | @granted e _ hf =>
    obtain ⟨hmem, hq, -⟩ := mem_of_forwardCandidate hf
    exact (h.setEntryState hmem (x := .active false) (by rw [hq]; rfl)).same (by simp [State.grantEntry]) (by simp)
      (by simp)
  | ended => exact RequestTableOk.delivered (h.same (by simp) (by simp) (by simp)) (State.delivered_deliver _ _ _)
  | discardEnd | breakEnd | urxLine => exact h.same (by simp) (by simp) rfl
  | gapExpiry => exact h.same (by simp) (by simp) rfl
  | _ => exact h.same (by simp) (by simp) (by simp)

theorem RequestTableOk.tick {s : State} (h : RequestTableOk s) : RequestTableOk s.tick := by
  refine h.congr ?_ (by simp) (by simp)
  simp only [State.tick_frame, List.map_map]
  refine List.map_congr_left fun e _ => ?_
  cases hs : e.state <;> simp [Entry.mark, Entry.tick, EntryState.isDone, hs]

/-- Settles O54: the law holds at reset and every effect keeps it. -/
theorem stepKeepsRequestTableLaw : Obligations.StepKeepsRequestTableLaw := fun _ _ h hstep =>
  step_keeps requestTableOk_powerOn (fun _ _ h => h.same rfl rfl rfl) (fun _ h => h.tick) (fun s _ h => h.announce s)
    (fun _ _ _ h he => h.effect he) h hstep

end Sys2Proof.Machine
end

section
/-! PROOFS. The parking law is kept by every step. -/
namespace Sys2Proof.Machine

/-! ## What the law asks of a domain -/

/-- A domain for which entries may wait PARKED (R51, R85). -/
def Domain.HoldsParked (x : Domain) : Prop :=
  x.state.mayPark = true ∧ (x.state.awaitsPending = true → x.pendingWake = true)

/-- Entries that wait for a domain, QUEUED or PARKED, may go on waiting for it. -/
def Domain.KeepsWaiting (x y : Domain) : Prop :=
  (x.HoldsParked → y.HoldsParked) ∧ (x.state.inService = true → y.state.inService = true)

theorem Domain.keepsWaiting_refl (x : Domain) : x.KeepsWaiting x := ⟨id, id⟩

theorem Domain.keepsWaiting_of_state {x y : Domain} (hs : y.state = x.state) (hp : y.pendingWake = x.pendingWake) :
    x.KeepsWaiting y := by
  simp only [KeepsWaiting, HoldsParked, hs, hp]
  exact ⟨id, id⟩

/-- A domain for which nothing may wait may become any other. -/
theorem Domain.keepsWaiting_of_none {x : Domain} (y : Domain) (hpark : x.state.mayPark = false)
    (hserve : x.state.inService = false) : x.KeepsWaiting y :=
  ⟨fun h => by simp [HoldsParked, hpark] at h, fun h => by simp [hserve] at h⟩

theorem Domain.holdsParked_inAttempt {x : Domain} (h : x.state.inAttempt = true) : x.HoldsParked := by
  cases hs : x.state <;> simp_all [HoldsParked, DomState.inAttempt, DomState.mayPark, DomState.awaitsPending]

theorem DomState.not_inService_of_inAttempt {x : DomState} (h : x.inAttempt = true) : x.inService = false := by
  cases x <;> simp_all [DomState.inAttempt, DomState.inService]

/-- Between two states of one wake attempt entries stay PARKED (R51). -/
theorem Domain.keepsWaiting_inAttempt {x y : Domain} (hx : x.state.inAttempt = true) (hy : y.state.inAttempt = true) :
    x.KeepsWaiting y :=
  ⟨fun _ => y.holdsParked_inAttempt hy, fun h => by simp [DomState.not_inService_of_inAttempt hx] at h⟩

theorem Domain.keepsWaiting_inService {x y : Domain} (hx : x.state.takesActivity = true)
    (hy : y.state.inService = true) : x.KeepsWaiting y := by
  refine ⟨fun h => ?_, fun _ => hy⟩
  obtain ⟨_, hs⟩ | ⟨_, hs⟩ := (DomState.takesActivity_iff _).1 hx <;> simp [HoldsParked, DomState.mayPark, hs] at h

/-- A domain that powers down with pending wake set keeps its PARKED entries (R84, R85). -/
theorem Domain.holdsParked_cooled {x : Domain} (h : x.pendingWake = true) : x.cooled.HoldsParked := by
  unfold Domain.cooled HoldsParked
  rw [if_pos h]
  split
  · exact ⟨rfl, fun _ => h⟩
  · exact ⟨rfl, fun hn => by cases hn⟩

/-- A move of a domain keeps what waits for it; only a power-down ends its service, with no work in progress. -/
theorem Domain.Moves.keeps {noWork : Prop} {x y : Domain} (h : Domain.Moves noWork x y) :
    (x.HoldsParked → y.HoldsParked) ∧ (x.state.inService = true → y.state.inService = true ∨ noWork) := by
  have hkeeps : x.KeepsWaiting y →
      (x.HoldsParked → y.HoldsParked) ∧ (x.state.inService = true → y.state.inService = true ∨ noWork) :=
    fun h => ⟨h.1, fun hs => .inl (h.2 hs)⟩
  cases h with
  | stays => exact hkeeps (keepsWaiting_refl x)
  | active =>
    apply hkeeps
    cases ha : x.state.takesActivity with
    | false => rw [Domain.active_of_not_takesActivity ha]; exact keepsWaiting_refl x
    | true => exact keepsWaiting_inService ha (by simp [Domain.active, ha, DomState.inService])
  | woken hs => exact hkeeps (keepsWaiting_of_none _ (by rw [hs]; rfl) (by rw [hs]; rfl))
  | willWake => exact hkeeps ⟨fun h => ⟨h.1, fun _ => rfl⟩, id⟩
  | idleStops hs => exact hkeeps (keepsWaiting_inService (by rw [hs]; rfl) rfl)
  | warned hs => exact hkeeps (keepsWaiting_inService (by rw [hs]; rfl) rfl)
  | drains hs => exact hkeeps (keepsWaiting_inService hs rfl)
  | powersDown hs hw =>
    refine ⟨fun h => ?_, fun _ => .inr hw⟩
    obtain hs | hs := hs
    · obtain ⟨_, hs⟩ | ⟨_, hs⟩ := (DomState.takesActivity_iff _).1 hs <;> simp [HoldsParked, DomState.mayPark, hs] at h
    · exact holdsParked_cooled (h.2 (by rw [hs]; rfl))
  | restarts hs =>
    exact hkeeps ⟨fun _ => holdsParked_inAttempt rfl, fun h => by rw [hs] at h; cases h⟩
  | turnsOff hs hp =>
    refine hkeeps ⟨fun h => ?_, fun h => by rw [hs] at h; cases h⟩
    rw [h.2 (by rw [hs]; rfl)] at hp
    cases hp
  | probes hs => exact hkeeps (keepsWaiting_inAttempt (by rw [hs]; rfl) rfl)

/-! ## What the law asks of an entry -/

theorem entryParkingOk_iff (s : State) (e : Entry) :
    EntryParkingOk s e ↔
      (e.state.isQueued = true → e.snapshot.isSome = true ∧ ∀ d, e.domain? = some d → (s.dom d).state.inService = true)
        ∧ (e.state.isActive = true → e.snapshot.isSome = true)
        ∧ (e.state.isParked = true → ∃ d, e.domain? = some d ∧ (s.dom d).HoldsParked) := by
  simp only [EntryParkingOk, domainServes_iff, Domain.HoldsParked]

/-- An entry that waits for no domain is under no condition. -/
theorem entryParkingOk_settled (s : State) {e : Entry} (hq : e.state.isQueued = false) (ha : e.state.isActive = false)
    (hp : e.state.isParked = false) : EntryParkingOk s e := by
  simp [EntryParkingOk, hq, ha, hp]

theorem entryParkingOk_done (s : State) {e : Entry} {status : Status} {reply : List Byte}
    (h : e.state = .done status reply) : EntryParkingOk s e := by
  apply entryParkingOk_settled <;> rw [h] <;> rfl

/-- An entry goes on waiting where its own domain lets it. -/
theorem EntryParkingOk.mono {s t : State} {e : Entry} (h : EntryParkingOk s e)
    (hd : ∀ d, e.domain? = some d → (s.dom d).KeepsWaiting (t.dom d)) : EntryParkingOk t e := by
  rw [entryParkingOk_iff] at h ⊢
  obtain ⟨hq, ha, hp⟩ := h
  refine ⟨fun h => ⟨(hq h).1, fun d hed => (hd d hed).2 ((hq h).2 d hed)⟩, ha, fun h => ?_⟩
  obtain ⟨d, hed, hx⟩ := hp h
  exact ⟨d, hed, (hd d hed).1 hx⟩

/-- The law where every entry is an old one or meets its own condition, and every domain keeps what waits for it. -/
theorem ParkingOk.step {s t : State} (h : ParkingOk s) (hd : ∀ d, (s.dom d).KeepsWaiting (t.dom d))
    (he : ∀ e ∈ t.entries, e ∈ s.entries ∨ EntryParkingOk t e) : ParkingOk t := by
  intro e hmem
  obtain hold | hok := he e hmem
  · exact (h e hold).mono fun d _ => hd d
  · exact hok

theorem ParkingOk.same {s t : State} (h : ParkingOk s) (he : t.entries = s.entries) (hd : t.domains = s.domains) :
    ParkingOk t :=
  h.step (fun d => by simp [State.dom, hd, Domain.keepsWaiting_refl]) fun e hmem => .inl (he ▸ hmem)

/-- Domains move, the entries stand. -/
theorem ParkingOk.moves {s t : State} (h : ParkingOk s) (he : t.entries = s.entries)
    (hd : ∀ d, Domain.Moves (NoWork s d) (s.dom d) (t.dom d)) : ParkingOk t := by
  intro e hmem
  rw [he] at hmem
  have hok := h e hmem
  rw [entryParkingOk_iff] at hok ⊢
  obtain ⟨hq, ha, hp⟩ := hok
  refine ⟨fun h => ⟨(hq h).1, fun d hed => ?_⟩, ha, fun h => ?_⟩
  · refine ((hd d).keeps.2 ((hq h).2 d hed)).resolve_right fun hw => ?_
    simp [(hw.1 e hmem hed).1] at h
  · obtain ⟨d, hed, hx⟩ := hp h
    exact ⟨d, hed, (hd d).keeps.1 hx⟩

theorem ParkingOk.domainMoved {s t : State} (h : ParkingOk s) (hm : DomainMoved s t) : ParkingOk t := by
  obtain ⟨d, cs, y, hy, rfl⟩ := hm
  refine h.moves (by simp) fun e => ?_
  rw [setDom_dom_of, State.dom_raiseAll]
  split
  next he => subst he; exact hy
  next => exact .stays

/-! ## Entries answered, granted and released -/

theorem ParkingOk.setEntryState {s : State} (h : ParkingOk s) (tag : Byte) {x : EntryState}
    (hx : ∀ e ∈ s.entries, e.tag = tag → EntryParkingOk s { e with state := x }) :
    ParkingOk (s.setEntryState tag x) := by
  refine h.step (fun d => by simp [Domain.keepsWaiting_refl]) fun e hmem => ?_
  obtain ⟨y, hy, rfl⟩ := List.mem_map.1 hmem
  split
  next htag => exact .inr (hx y hy htag)
  next => exact .inl hy

theorem ParkingOk.finishEntry {s : State} (h : ParkingOk s) (tag : Byte) (status : Status) (reply : List Byte) :
    ParkingOk (s.finishEntry tag status reply) :=
  (h.setEntryState tag fun _ _ _ => entryParkingOk_done s rfl).same rfl rfl

/-- Domains that enter FAULT lose every entry that waits for them; the others keep theirs (R51, R92). -/
theorem ParkingOk.finishFaulted {s t : State} (h : ParkingOk s) (he : t.entries = s.entries)
    (hd : ∀ d, (s.dom d).KeepsWaiting (t.dom d) ∨ (t.dom d).state = .fault ∧ (s.dom d).state ≠ .fault) :
    ParkingOk (finishFaulted s t) := by
  intro e hmem
  simp only [Machine.finishFaulted, State.finishWhere, State.withReplyQueue_entries, State.withEntries_entries,
    he] at hmem
  obtain ⟨x, hx, rfl⟩ := List.mem_map.1 hmem
  split
  next => exact entryParkingOk_done _ rfl
  next hnot =>
    -- an entry that waits, and is not ended, waits for a domain that has not entered FAULT
    have hkept : (x.state.isQueued = true ∨ x.state.isParked = true) →
        ∀ d, x.domain? = some d → (s.dom d).KeepsWaiting (t.dom d) := by
      intro hwaits d hxd
      refine (hd d).resolve_right fun ⟨ht, hs⟩ => hnot ?_
      have hsf : (s.dom d).state.isFault = false := by
        cases hf : (s.dom d).state.isFault
        · rfl
        · exact absurd ((isFault_iff _).1 hf) hs
      have htf := (isFault_iff _).2 ht
      obtain hw | hw := hwaits <;> cases hst : x.state <;>
        simp_all [faultedEntry, EntryState.isQueued, EntryState.isParked, EntryState.isDone]
    by_cases hwaits : x.state.isQueued = true ∨ x.state.isParked = true
    · exact (h x hx).mono fun d hxd => by simpa using hkept hwaits d hxd
    · rw [not_or, Bool.not_eq_true, Bool.not_eq_true] at hwaits
      obtain ⟨hq, hp⟩ := hwaits
      refine ⟨fun h => by simp [hq] at h, (h x hx).2.1, fun h => by simp [hp] at h⟩

/-- A failed wake attempt (R91, R92). -/
theorem ParkingOk.attemptFails {s : State} (h : ParkingOk s) {d : DomainId} (cause : FaultCause)
    (hs : (s.dom d).state.inAttempt = true) : ParkingOk (Machine.finishFaulted s (s.attemptFails d cause)) := by
  refine h.finishFaulted (by simp) fun e => ?_
  by_cases hl : (s.dom d).attempt < (s.dom d).config.wakeLimit.toNat
  · refine .inl ?_
    rw [attemptFails_again s d cause hl, setDom_dom_of]
    split
    next he =>
      subst he
      exact ⟨fun _ => Domain.holdsParked_cooled rfl, fun hn => by simp [DomState.not_inService_of_inAttempt hs] at hn⟩
    next => exact Domain.keepsWaiting_refl _
  · rw [attemptFails_last s d cause (Nat.le_of_not_lt hl), setDom_dom_of]
    split
    next he =>
      subst he
      exact .inr ⟨rfl, fun hf => by rw [hf] at hs; cases hs⟩
    next => exact .inl (Domain.keepsWaiting_refl _)

/-- A domain that reaches ON releases its PARKED entries (R49, R90). -/
theorem ParkingOk.reachOn {s : State} (h : ParkingOk s) (d : DomainId) : ParkingOk (s.reachOn d) := by
  have hdom : ∀ e, e ≠ d → (s.reachOn d).dom e = s.dom e := fun e he => by
    simp [State.reachOn, State.dom_setDom_ne _ _ he]
  have hon : ((s.reachOn d).dom d).state.inService = true := by simp [State.reachOn, DomState.inService]
  intro e hmem
  have hentries : (s.reachOn d).entries = s.entries.map fun e =>
      if e.state.isParked && e.domain? == some d then { e with state := .queued } else e := by
    simp [State.reachOn, State.release]
  rw [hentries] at hmem
  obtain ⟨x, hx, rfl⟩ := List.mem_map.1 hmem
  have hok := (entryParkingOk_iff s x).1 (h x hx)
  obtain ⟨hq, ha, hp⟩ := hok
  by_cases hxd : x.domain? = some d
  · have hsnap : x.snapshot.isSome = true := by
      cases hn : x.snapshot
      · simp [Entry.domain?, hn] at hxd
      · rfl
    have hserves : ∀ e, x.domain? = some e → ((s.reachOn d).dom e).state.inService = true := by
      intro e he
      rw [hxd] at he
      cases he
      exact hon
    split
    next => exact (entryParkingOk_iff _ _).2 ⟨fun _ => ⟨hsnap, hserves⟩, fun h => (by cases h), fun h => (by cases h)⟩
    next hnot =>
      have hnp : x.state.isParked = false := by simpa [hxd] using hnot
      exact (entryParkingOk_iff _ _).2 ⟨fun _ => ⟨hsnap, hserves⟩, ha, fun h => by simp [hnp] at h⟩
  · rw [if_neg (by simp [hxd])]
    refine (h x hx).mono fun e he => ?_
    rw [hdom e fun hed => hxd (hed ▸ he)]
    exact Domain.keepsWaiting_refl _

theorem ParkingOk.setDomState {s : State} (h : ParkingOk s) {d : DomainId} {x : DomState}
    (hx : (s.dom d).KeepsWaiting { s.dom d with state := x }) : ParkingOk (s.setDomState d x) := by
  refine h.step (fun e => ?_) fun e hmem => .inl (by simpa using hmem)
  rw [State.setDomState, setDom_dom_of]
  split
  next he => subst he; exact hx
  next => exact Domain.keepsWaiting_refl _

theorem ParkingOk.enterRestoring {s : State} (h : ParkingOk s) {d : DomainId} (hs : (s.dom d).state.inAttempt = true) :
    ParkingOk (s.enterRestoring d) := by
  unfold State.enterRestoring
  split
  · exact h.setDomState (Domain.keepsWaiting_inAttempt hs rfl)
  · exact h.reachOn d

theorem ParkingOk.advanceReplay {s : State} (h : ParkingOk s) {d : DomainId} (k : Key)
    (hs : (s.dom d).state.inAttempt = true) : ParkingOk (s.advanceReplay d k) := by
  unfold State.advanceReplay
  split
  · exact h.setDomState (Domain.keepsWaiting_inAttempt hs rfl)
  · exact h.reachOn d

/-- An outcome finishes its entry, or queues it again for a domain in service (R47). -/
theorem ParkingOk.entryOutcome {s : State} (ht : RequestTableOk s) (h : ParkingOk s) {e : Entry} (he : e ∈ s.entries)
    (hs : e.state.isActive = true) (abort : Bool) (o : AttemptOutcome) : ParkingOk (s.entryOutcome e abort o) := by
  obtain ⟨status, reply, cs, hr⟩ | ⟨hserves, hr⟩ := s.entryOutcome_cases e abort o <;> rw [hr]
  · exact (h.finishEntry e.tag status reply).same (by simp) (by simp)
  · refine h.step (fun d => by simp [Domain.keepsWaiting_refl]) fun x hmem => ?_
    obtain ⟨y, hy, rfl⟩ := List.mem_map.1 hmem
    split
    next htag =>
      have hye := eq_of_tag _ ht.2.1 y e hy he htag
      subst hye
      exact .inr ⟨fun _ => ⟨(h y hy).2.1 hs, hserves⟩, fun h => (by cases h), fun h => (by cases h)⟩
    next => exact .inl hy

theorem ParkingOk.drainDomain {s : State} (h : ParkingOk s) (d : Option DomainId) : ParkingOk (s.drainDomain d) := by
  cases d with
  | none => exact h
  | some d => exact h.domainMoved (domainMoved_drainCheck s d)

theorem ParkingOk.delivered {s t : State} {x : Exchange} {o : AttemptOutcome} (ht : RequestTableOk s)
    (h : ParkingOk s) (hd : Delivered s x o t) : ParkingOk t := by
  cases hd with
  | ignored => exact h
  | @entry e abort _ he hs =>
    have ho := h.entryOutcome ht (mem_of_entry? s _ _ he).1 (by rw [hs]; rfl) abort o
    exact ParkingOk.drainDomain (ho.same (by simp) (by simp)) _
  | orphan => exact ParkingOk.drainDomain (h.same (by simp) (by simp)) _
  | probePassed _ hs => exact ParkingOk.enterRestoring (h.same (by simp) (by simp)) (by simp [hs, DomState.inAttempt])
  | probeFailed _ hs => exact h.attemptFails _ (by rw [hs]; rfl)
  | writeDone _ _ hs =>
    exact ParkingOk.advanceReplay (h.same (by simp) (by simp)) _ (by simp [hs, DomState.inAttempt])
  | writeFailed _ hs => exact ParkingOk.attemptFails (h.same (by simp) (by simp)) _ (by simp [hs, DomState.inAttempt])
  | _ => exact h.same (by simp) (by simp)

/-! ## Admission -/

/-- R79's table queues a request for a domain in service, and parks one where the domain, as the arrival leaves it, will
release it. -/
theorem arrival_waits (cls : ActivityClass) (x : Domain) :
    (arrivalVerdict cls x = .queued → (x.arrived cls).state.inService = true)
      ∧ (arrivalVerdict cls x = .parked → (x.arrived cls).HoldsParked) := by
  cases ha : x.state.takesActivity with
  | true =>
    have hserve := (Domain.moves_arrived False x cls).keeps.2
      (by obtain ⟨_, hs⟩ | ⟨_, hs⟩ := (DomState.takesActivity_iff _).1 ha <;> rw [hs] <;> rfl)
    refine ⟨fun _ => hserve.resolve_right id, fun hv => ?_⟩
    rw [(arrivalRow_inService ha).1] at hv
    cases hv
  | false =>
    have hnot : arrivalVerdict cls x ≠ .queued := by
      cases cls <;> cases hs : x.state <;> simp_all [arrivalVerdict, DomState.takesActivity] <;> split <;> simp
    refine ⟨fun hv => absurd hv hnot, fun hv => ?_⟩
    have hwake : cls = .wake := by
      cases cls <;> cases hs : x.state <;> simp_all [arrivalVerdict]
    subst hwake
    by_cases hallowed : x.pendingWake = true ∨ x.config.wakeAllowed = true <;> cases hs : x.state <;>
      simp_all [arrivalVerdict, Domain.arrived, Domain.HoldsParked, Domain.woken, Domain.willWake, DomState.mayPark,
        DomState.awaitsPending]

theorem Verdict.makes_waits (v : Verdict) (timer : Nat) :
    ((v.makes timer).isQueued = true ↔ v = .queued) ∧ (v.makes timer).isActive = false
      ∧ ((v.makes timer).isParked = true ↔ v = .parked) := by
  cases v <;> simp [Verdict.makes, EntryState.isQueued, EntryState.isActive, EntryState.isParked]

/-- The entry an admission makes may wait as it is made, its domain as the arrival leaves it (R42, R79). -/
theorem AdmitsAs.entryParkingOk {s u : State} {snap : Option Snapshot} {made : EntryState}
    (h : AdmitsAs s u snap made) (tag : Byte) (c : Command) : EntryParkingOk u (newEntry tag c snap made) := by
  cases h with
  | answered | denied => exact entryParkingOk_done _ rfl
  | waitsLocal => exact entryParkingOk_settled _ rfl rfl rfl
  | noDomain hn =>
    refine ⟨fun _ => ⟨rfl, ?_⟩, fun h => (by cases h), fun h => (by cases h)⟩
    simp [newEntry, Entry.domain?, Window.snapshot, hn, State.domainServes]
  | @arrives i d hd =>
    have hdom : (newEntry tag c (some ((s.windows.get i).snapshot i))
        ((arrivalVerdict (s.windows.get i).cls (s.dom d)).makes (s.countHit i).parkTime)).domain? = some d := hd
    rw [entryParkingOk_iff]
    simp only [hdom, Option.some.injEq, forall_eq', exists_eq_left', State.dom_setDom_self]
    obtain ⟨hq, ha, hp⟩ := (arrivalVerdict (s.windows.get i).cls (s.dom d)).makes_waits (s.countHit i).parkTime
    have hwaits := arrival_waits (s.windows.get i).cls (s.dom d)
    exact ⟨fun h => ⟨rfl, hwaits.1 (hq.1 h)⟩, fun h => absurd h (by simp [newEntry, ha]),
      fun h => hwaits.2 (hp.1 h)⟩

theorem ParkingOk.admission {s : State} (h : ParkingOk s) (tag : Byte) (c : Command) :
    ParkingOk (s.admission tag c) := by
  obtain ⟨cause, ha⟩ | ⟨-, -, u, snap, made, hu, ha⟩ := s.admission_cases tag c <;> rw [ha]
  · exact h.same (by simp) (by simp)
  · have hkept : ∀ d, (s.dom d).KeepsWaiting (u.dom d) := fun d =>
      ⟨(hu.moves d).keeps.1, fun hs => ((hu.moves d).keeps.2 hs).resolve_right id⟩
    refine h.step hkept fun e hmem => ?_
    rw [(State.enterTable_frame _ _ _ _ _).2.2.2.2.2.2.2.2.2.2.2.1, hu.kept.2.1] at hmem
    rcases List.mem_append.1 hmem with hmem | hmem
    · exact .inl hmem
    · rw [List.mem_singleton.1 hmem]
      exact .inr (hu.entryParkingOk tag c)

/-! ## Every effect -/

theorem ParkingOk.received {s t : State} (h : ParkingOk s) (ht : Received s t) : ParkingOk t := by
  cases ht with
  | receiverOnly => exact h.same rfl rfl
  | discarded => exact h.same (by simp) (by simp)
  | delivered =>
    refine ParkingOk.admission ?_ _ _
    exact h.same rfl rfl

/-- SEGMENT_RESET finishes every entry that waits (R54). -/
theorem ParkingOk.segmentReset {s : State} (h : ParkingOk s) (own : Byte) : ParkingOk (s.segmentReset own) := by
  intro e hmem
  rw [State.segmentReset_entries] at hmem
  obtain ⟨x, hx, rfl⟩ := List.mem_map.1 hmem
  have hsnap := (h x hx).2.1
  unfold Entry.underReset
  split
  next => exact entryParkingOk_done _ rfl
  next hnot =>
    split
    next ha => exact ⟨fun h => (by cases h), fun _ => hsnap ha, fun h => (by cases h)⟩
    next ha =>
      cases hs : x.state <;>
        simp_all [Entry.resetAborts, EntryParkingOk, EntryState.isQueued, EntryState.isActive, EntryState.isParked]

theorem Domain.keepsWaiting_configure (x : Domain) (c : DomainConfig) : x.KeepsWaiting (x.configure c) := by
  unfold Domain.configure
  split
  next hw =>
    have : x.state.takesActivity = true := by
      cases hs : x.state <;> simp_all [DomState.isWarning, DomState.takesActivity]
    exact keepsWaiting_inService this rfl
  next => exact keepsWaiting_of_state rfl rfl

theorem ParkingOk.body {s t : State} {tag : Byte} {c : Instr} (h : ParkingOk s) (hb : Body s tag c t) :
    ParkingOk t := by
  cases hb with
  | domainMoved hm => exact h.domainMoved hm
  | domainConfigs =>
    exact h.step (fun d => by simp [Domain.keepsWaiting_configure]) fun e hmem => .inl hmem
  | @faultCleared d hf =>
    refine h.step (fun e => ?_) fun e hmem => .inl (by simpa using hmem)
    rw [setDom_dom_of]
    split
    next he => subst he; exact Domain.keepsWaiting_of_none _ (by rw [hf]; rfl) (by rw [hf]; rfl)
    next => exact Domain.keepsWaiting_refl _
  | segmentReset => exact h.segmentReset tag
  | countersCleared =>
    refine h.step (fun d => ?_) fun e hmem => .inl hmem
    rw [State.dom_clearCounters]
    exact Domain.keepsWaiting_of_state rfl rfl
  | _ => exact h.same (by simp) (by simp)

theorem DomState.inAttempt_markGranted {x : DomState} (h : x.inAttempt = true) : x.markGranted.inAttempt = true := by
  cases x <;> simp_all [DomState.inAttempt, DomState.markGranted]

/-- A maintenance candidate's domain is in CHECKING or RESTORING, its work named by the candidate (R128). -/
theorem maintenanceCandidate_due {s : State} {d : DomainId} {m : Maintenance}
    (h : s.maintenanceCandidate = some (d, m)) : MaintenanceDue s d m.originator m.cmd m.attempt := by
  obtain ⟨e, -, he⟩ := List.exists_of_findSome?_eq_some h
  obtain ⟨m', hm, heq⟩ := Option.map_eq_some_iff.1 he
  cases heq
  exact (maintenanceOf_iff s d _ _ _).2 hm

theorem MaintenanceDue.inAttempt {s : State} {d : DomainId} {o : Originator} {c : Command} {n : Nat}
    (h : MaintenanceDue s d o c n) : (s.dom d).state.inAttempt = true := by
  obtain ⟨_, _, hs, -⟩ | ⟨_, _, _, hs, -⟩ := h <;> rw [hs] <;> rfl

theorem State.dom_grantMaintenance (s : State) (d e : DomainId) (m : Maintenance) :
    (s.grantMaintenance d m).dom e = (s.setDomState d (s.dom d).state.markGranted).dom e := by
  simp [State.grantMaintenance, State.dom]

theorem ParkingOk.powerGoodFalling {s : State} (h : ParkingOk s) (i : Fin 4) :
    ParkingOk (Machine.finishFaulted s (s.powerGoodFalling i)) := by
  refine h.finishFaulted (by simp) fun d => ?_
  rw [State.dom_powerGoodFalling]
  split
  next =>
    unfold Domain.powerLost
    cases hs : (s.dom d).state with
    | on | warning | draining => exact .inr ⟨rfl, by simp⟩
    | checking | restoring =>
      dsimp only
      split
      · exact .inl ⟨fun _ => Domain.holdsParked_cooled rfl, fun hn => by rw [hs] at hn; cases hn⟩
      · exact .inr ⟨rfl, by simp⟩
    | settling | off | cooldown | fault => exact .inl (Domain.keepsWaiting_refl _)
  next => exact .inl (Domain.keepsWaiting_refl _)

theorem ParkingOk.effect {s t : State} {c : Instr} (ht : RequestTableOk s) (h : ParkingOk s) (he : Effect s c t) :
    ParkingOk t := by
  cases he with
  | nothing => exact h
  | character data mark =>
    refine ParkingOk.received ?_ (State.received_receive (s.onLine _) data mark)
    exact h.same rfl rfl
  | upstreamBreak => exact fun e hmem => by simp at hmem
  | choice | refusalSent | noticeSent => exact h.same (by simp) (by simp)
  | replySent tag =>
    refine h.step (fun d => by simp [Domain.keepsWaiting_refl]) fun e hmem => .inl ?_
    simp only [State.replyGone, State.transmitterChoice_frame, State.freeEntry, State.withEntries_entries] at hmem
    exact (List.mem_filter.1 hmem).1
  | parkExpired => exact (h.finishEntry _ _ _).same rfl rfl
  | answered _ hb => exact (h.body hb).finishEntry _ _ _
  | notServed =>
    have hr : ParkingOk (s.raise .mgmtError) := h.same rfl rfl
    exact hr.finishEntry _ _ _
  | domainMoved hm => exact h.domainMoved hm
  | settleFails hs => exact h.attemptFails _ (by rw [hs]; rfl)
  | settleRestores hs => exact h.enterRestoring (by rw [hs]; rfl)
  | pgFalls i p =>
    have hp : ParkingOk (s.withPg p) := h.same rfl rfl
    exact hp.powerGoodFalling i
  | edgeSelected i f =>
    refine h.moves (by simp) fun d => ?_
    rw [State.dom_selectedEdge]
    exact Domain.moves_edgeActed _ _ _ _
  | granted _ hf =>
    obtain ⟨hmem, -, hsnap, -⟩ := mem_of_forwardCandidate hf
    refine ParkingOk.same (h.setEntryState _ fun x hx htag => ?_) rfl rfl
    rw [eq_of_tag _ ht.2.1 x _ hx hmem htag]
    exact ⟨fun h => (by cases h), fun _ => hsnap, fun h => (by cases h)⟩
  | @grantedMaintenance d m _ hm =>
    have hs := (maintenanceCandidate_due hm).inAttempt
    have hg : ParkingOk (s.setDomState d (s.dom d).state.markGranted) :=
      h.setDomState (Domain.keepsWaiting_inAttempt hs (DomState.inAttempt_markGranted hs))
    exact hg.same (by simp) (by simp [State.grantMaintenance])
  | ended =>
    exact ParkingOk.delivered (ht.same (by simp) (by simp) (by simp)) (h.same (by simp) (by simp))
      (State.delivered_deliver _ _ _)
  | _ => exact h.same (by simp) (by simp)

theorem Domain.keepsWaiting_tick (x : Domain) : x.KeepsWaiting { x with state := x.state.tick } := by
  have hm : x.state.tick.mayPark = x.state.mayPark := by cases x.state <;> rfl
  have ha : x.state.tick.awaitsPending = x.state.awaitsPending := by cases x.state <;> rfl
  have hs : x.state.tick.inService = x.state.inService := by cases x.state <;> rfl
  simp only [KeepsWaiting, HoldsParked, hm, ha, hs]
  exact ⟨id, id⟩

theorem ParkingOk.tick {s : State} (h : ParkingOk s) : ParkingOk s.tick := by
  intro e hmem
  simp only [State.tick_frame] at hmem
  obtain ⟨x, hx, rfl⟩ := List.mem_map.1 hmem
  have hold : EntryParkingOk s.tick x := (h x hx).mono fun d _ => by simp [Domain.keepsWaiting_tick]
  cases hs : x.state with
  | parked timer =>
    have htick : x.tick = { x with state := .parked (timer - 1) } := by simp [Entry.tick, hs]
    rw [htick]
    exact ⟨fun h => (by cases h), fun h => (by cases h), fun _ => hold.2.2 (by rw [hs]; rfl)⟩
  | _ =>
    have htick : x.tick = x := by simp [Entry.tick, hs]
    rwa [htick]

/-- Settles O55: with the table's law, which gives an outcome its one entry, every effect keeps the parking law. -/
theorem stepKeepsParkingLaw : Obligations.StepKeepsParkingLaw := fun _ _ ht h hstep =>
  (step_keeps (P := fun s => RequestTableOk s ∧ ParkingOk s)
    (fun pins waiting => ⟨requestTableOk_powerOn pins waiting, parkingOk_powerOn pins waiting⟩)
    (fun _ _ ⟨ht, h⟩ => ⟨ht.same rfl rfl rfl, h.same rfl rfl⟩) (fun _ ⟨ht, h⟩ => ⟨ht.tick, h.tick⟩)
    (fun s _ ⟨ht, h⟩ => ⟨ht.announce s, h.same (by simp) (by simp)⟩)
    (fun _ _ _ ⟨ht, h⟩ he => ⟨ht.effect he, h.effect ht he⟩) ⟨ht, h⟩ hstep).2

end Sys2Proof.Machine
end

section
/-! PROOFS. The segment's law is kept by every step. -/
namespace Sys2Proof.Machine

/-! ## The ACTIVE entries of two states -/

/-- Two states have the same ACTIVE entries, by tag, command and domain. -/
def SameActive (s t : State) : Prop :=
  (∀ e ∈ t.entries, e.state.isActive = true →
      ∃ x ∈ s.entries, x.state.isActive = true ∧ x.tag = e.tag ∧ x.cmd = e.cmd ∧ x.domain? = e.domain?)
    ∧ ∀ x ∈ s.entries, x.state.isActive = true → ∃ e ∈ t.entries, e.state.isActive = true ∧ e.tag = x.tag

/-- What the law reads of an entry that stays in its place. -/
def Entry.SameWork (e x : Entry) : Prop :=
  x.state.isActive = e.state.isActive ∧ x.tag = e.tag ∧ x.cmd = e.cmd ∧ x.domain? = e.domain?

theorem Entry.sameWork_refl (e : Entry) : e.SameWork e := ⟨rfl, rfl, rfl, rfl⟩

theorem Entry.sameWork_of_state {e : Entry} {x : EntryState} (h : x.isActive = e.state.isActive) :
    e.SameWork { e with state := x } := ⟨h, rfl, rfl, rfl⟩

theorem sameActive_map {s t : State} (f : Entry → Entry) (he : t.entries = s.entries.map f)
    (hf : ∀ e ∈ s.entries, e.SameWork (f e)) : SameActive s t := by
  refine ⟨fun e hmem ha => ?_, fun x hx ha => ⟨f x, ?_, ?_, (hf x hx).2.1⟩⟩
  · rw [he] at hmem
    obtain ⟨x, hx, rfl⟩ := List.mem_map.1 hmem
    obtain ⟨hactive, htag, hcmd, hdom⟩ := hf x hx
    exact ⟨x, hx, hactive ▸ ha, htag.symm, hcmd.symm, hdom.symm⟩
  · rw [he]; exact List.mem_map_of_mem hx
  · rw [(hf x hx).1, ha]

theorem sameActive_of_entries {s t : State} (he : t.entries = s.entries) : SameActive s t :=
  sameActive_map id (by simp [he]) fun e _ => e.sameWork_refl

theorem SameActive.trans {s t u : State} (h : SameActive s t) (h' : SameActive t u) : SameActive s u := by
  refine ⟨fun e hmem ha => ?_, fun x hx ha => ?_⟩
  · obtain ⟨y, hy, hya, htag, hcmd, hdom⟩ := h'.1 e hmem ha
    obtain ⟨x, hx, hxa, htag', hcmd', hdom'⟩ := h.1 y hy hya
    exact ⟨x, hx, hxa, htag'.trans htag, hcmd'.trans hcmd, hdom'.trans hdom⟩
  · obtain ⟨y, hy, hya, htag⟩ := h.2 x hx ha
    obtain ⟨e, he, hea, htag'⟩ := h'.2 y hy hya
    exact ⟨e, he, hea, htag'.trans htag⟩

/-- An entry that is not ACTIVE takes another state that is not. -/
theorem sameActive_setEntryState {s : State} (ht : (s.entries.map (·.tag)).Nodup) {e : Entry} (he : e ∈ s.entries)
    (hs : e.state.isActive = false) {x : EntryState} (hx : x.isActive = false) :
    SameActive s (s.setEntryState e.tag x) := by
  refine sameActive_map _ rfl fun y hy => ?_
  split
  next htag =>
    rw [eq_of_tag _ ht y e hy he htag]
    exact Entry.sameWork_of_state (by rw [hx, hs])
  next => exact y.sameWork_refl

theorem sameActive_finishEntry {s : State} (ht : (s.entries.map (·.tag)).Nodup) {e : Entry} (he : e ∈ s.entries)
    (hs : e.state.isActive = false) (status : Status) (reply : List Byte) :
    SameActive s (s.finishEntry e.tag status reply) :=
  (sameActive_setEntryState ht he hs rfl).trans (sameActive_of_entries rfl)

theorem faultedEntry_not_active {s t : State} {e : Entry} (h : faultedEntry s t e = true) :
    e.state.isActive = false := by
  cases hs : e.state <;> simp_all [faultedEntry, EntryState.isQueued, EntryState.isParked, EntryState.isActive]

theorem sameActive_finishFaulted (s t : State) : SameActive t (finishFaulted s t) := by
  refine sameActive_map _ rfl fun e _ => ?_
  split
  next h =>
    rw [Bool.and_eq_true] at h
    exact Entry.sameWork_of_state (by rw [faultedEntry_not_active h.1]; rfl)
  next => exact e.sameWork_refl

theorem sameActive_reachOn (s : State) (d : DomainId) : SameActive s (s.reachOn d) := by
  refine sameActive_map (fun e => if e.state.isParked && e.domain? == some d then { e with state := .queued } else e)
    (by simp [State.reachOn, State.release]) fun e _ => ?_
  split
  next h =>
    rw [Bool.and_eq_true] at h
    refine Entry.sameWork_of_state ?_
    cases hs : e.state <;> simp_all [EntryState.isParked, EntryState.isActive]
  next => exact e.sameWork_refl

theorem sameActive_enterRestoring (s : State) (d : DomainId) : SameActive s (s.enterRestoring d) := by
  unfold State.enterRestoring
  split
  · exact sameActive_of_entries (by simp)
  · exact sameActive_reachOn s d

theorem sameActive_advanceReplay (s : State) (d : DomainId) (k : Key) : SameActive s (s.advanceReplay d k) := by
  unfold State.advanceReplay
  split
  · exact sameActive_of_entries (by simp)
  · exact sameActive_reachOn s d

/-! ## The law, and what it depends on -/

/-- What the law reads of an attempt. -/
def Attempt.work (a : Attempt) : Originator × Command × Option DomainId :=
  (a.exchange.originator, a.exchange.cmd, a.exchange.domain)

theorem segmentOk_iff_work (s : State) :
    SegmentOk s ↔
      (∀ e ∈ s.entries, e.state.isActive = true →
          s.sport.attempt.map Attempt.work = some (.entry e.tag, e.cmd, e.domain?))
        ∧ ∀ tag c d, s.sport.attempt.map Attempt.work = some (.entry tag, c, d) →
            ∃ e ∈ s.entries, e.tag = tag ∧ e.state.isActive = true := by
  simp only [SegmentOk, Attempt.work, Option.map_eq_some_iff, Prod.mk.injEq]
  exact and_congr_right fun _ =>
    ⟨fun h tag _ _ ⟨a, ha, ho, _⟩ => h a tag ha ho, fun h a tag ha ho => h tag _ _ ⟨a, ha, ho, rfl, rfl⟩⟩

/-- The law depends on the ACTIVE entries and on the work of the attempt in progress alone. -/
theorem SegmentOk.congr {s t : State} (h : SegmentOk s) (he : SameActive s t)
    (ha : t.sport.attempt.map Attempt.work = s.sport.attempt.map Attempt.work) : SegmentOk t := by
  rw [segmentOk_iff_work] at h ⊢
  rw [ha]
  refine ⟨fun e hmem hactive => ?_, fun tag c d hw => ?_⟩
  · obtain ⟨x, hx, hxa, htag, hcmd, hdom⟩ := he.1 e hmem hactive
    rw [← htag, ← hcmd, ← hdom]
    exact h.1 x hx hxa
  · obtain ⟨x, hx, rfl, hxa⟩ := h.2 tag c d hw
    obtain ⟨e, hmem, hactive, htag⟩ := he.2 x hx hxa
    exact ⟨e, hmem, htag, hactive⟩

theorem SegmentOk.same {s t : State} (h : SegmentOk s) (he : t.entries = s.entries)
    (ha : t.sport.attempt = s.sport.attempt) : SegmentOk t :=
  h.congr (sameActive_of_entries he) (by rw [ha])

/-- No entry is ACTIVE. -/
def NoActive (s : State) : Prop := ∀ e ∈ s.entries, e.state.isActive = false

theorem NoActive.congr {s t : State} (h : NoActive s) (he : SameActive s t) : NoActive t := by
  intro e hmem
  by_contra hactive
  obtain ⟨x, hx, hxa, -⟩ := he.1 e hmem (by simpa using hactive)
  rw [h x hx] at hxa
  cases hxa

theorem NoActive.same {s t : State} (h : NoActive s) (he : t.entries = s.entries) : NoActive t :=
  h.congr (sameActive_of_entries he)

/-- With the S-port FREE the law says that no entry is ACTIVE. -/
theorem segmentOk_free {s : State} (hfree : s.sport.attempt = none) : SegmentOk s ↔ NoActive s := by
  simp [segmentOk_iff_work, hfree, NoActive]

/-- Where the attempt is for no entry, the law says that no entry is ACTIVE. -/
theorem segmentOk_of_noActive {s : State} (h : NoActive s)
    (ha : ∀ a, s.sport.attempt = some a → ∀ tag, a.exchange.originator ≠ .entry tag) : SegmentOk s :=
  ⟨fun e hmem hactive => by simp [h e hmem] at hactive, fun a tag hs ho => absurd ho (ha a hs tag)⟩

/-! ## The end of an attempt -/

theorem Delivered.attempt {s t : State} {x : Exchange} {o : AttemptOutcome} (h : Delivered s x o t) :
    t.sport.attempt = s.sport.attempt := by
  cases h with
  | probeFailed | writeFailed => simp [State.attemptFails_sport, State.clearNote]
  | _ => simp [State.setNote, State.clearNote]

/-- An outcome leaves its entry DONE or QUEUED, so no entry is ACTIVE where no other was. -/
theorem noActive_entryOutcome {s : State} {e : Entry}
    (h : ∀ x ∈ s.entries, x.state.isActive = true → x.tag = e.tag) (abort : Bool) (o : AttemptOutcome) :
    NoActive (s.entryOutcome e abort o) := by
  have hother : ∀ x ∈ s.entries, x.tag ≠ e.tag → x.state.isActive = false := fun x hx htag => by
    cases ha : x.state.isActive
    · rfl
    · exact absurd (h x hx ha) htag
  obtain ⟨status, reply, cs, hr⟩ | ⟨-, hr⟩ := s.entryOutcome_cases e abort o <;> rw [hr]
  · intro y hy
    simp only [State.raiseAll_frame, State.finishEntry, State.withReplyQueue_entries, State.setEntryState,
      State.withEntries_entries] at hy
    obtain ⟨x, hx, rfl⟩ := List.mem_map.1 hy
    split
    next => rfl
    next htag => exact hother x hx htag
  · intro y hy
    obtain ⟨x, hx, rfl⟩ := List.mem_map.1 hy
    split
    next => rfl
    next htag => exact hother x hx htag

/-- The end of an attempt leaves no entry ACTIVE: the one entry it could be was the attempt's (R47, R137). -/
theorem noActive_delivered {s t : State} {x : Exchange} {o : AttemptOutcome} (ht : (s.entries.map (·.tag)).Nodup)
    (h : ∀ e ∈ s.entries, e.state.isActive = true → x.originator = .entry e.tag) (hd : Delivered s x o t) :
    NoActive t := by
  have hnone : (∀ tag, x.originator ≠ .entry tag) → NoActive s := fun ho e he => by
    cases ha : e.state.isActive
    · rfl
    · exact absurd (h e he ha) (ho _)
  cases hd with
  | ignored hig =>
    intro e he
    cases hs : e.state with
    | active abort =>
      have ho := h e he (by rw [hs]; rfl)
      exact absurd hs (hig _ e abort ho (entry?_of_mem s e ht he))
    | _ => rfl
  | @entry e abort ho he hs =>
    have hout : NoActive (s.entryOutcome e abort o) := noActive_entryOutcome (fun y hy ha => by
      have := (h y hy ha).symm.trans ho
      injection this) abort o
    exact hout.same (by simp)
  | orphan ho => exact (hnone (by simp [ho])).same (by simp)
  | probeRetried _ ho | writeRetried _ ho => exact (hnone (by simp [ho])).same (by simp)
  | @probePassed d _ ho =>
    have hc : NoActive (s.clearNote d) := (hnone (by simp [ho])).same (by simp)
    exact hc.congr (sameActive_enterRestoring _ _)
  | probeFailed ho =>
    exact (NoActive.same (hnone (by simp [ho])) (by simp)).congr (sameActive_finishFaulted _ _)
  | writeFailed ho =>
    exact (NoActive.same (hnone (by simp [ho])) (by simp)).congr (sameActive_finishFaulted _ _)
  | writeDone _ ho =>
    exact (NoActive.same (hnone (by simp [ho])) (by simp)).congr (sameActive_advanceReplay _ _ _)

/-! ## Every effect -/

theorem SegmentOk.admission {s : State} (h : SegmentOk s) (tag : Byte) (c : Command) :
    SegmentOk (s.admission tag c) := by
  obtain ⟨cause, ha⟩ | ⟨-, -, u, snap, made, hu, ha⟩ := s.admission_cases tag c
  · rw [ha]
    exact h.same (by simp) (by simp)
  · have hmade : made.isActive = false := by
      cases hu with
      | arrives => exact ((arrivalVerdict _ _).makes_waits _).2.1
      | _ => rfl
    have hentries : (s.admission tag c).entries = s.entries ++ [newEntry tag c snap made] := by
      rw [ha]; simp [hu.kept]
    refine h.congr ⟨fun e hmem hactive => ?_, fun x hx hactive => ⟨x, ?_, hactive, rfl⟩⟩ (by simp)
    · rw [hentries] at hmem
      rcases List.mem_append.1 hmem with hmem | hmem
      · exact ⟨e, hmem, hactive, rfl, rfl, rfl⟩
      · rw [List.mem_singleton.1 hmem, newEntry, hmade] at hactive
        cases hactive
    · rw [hentries]
      exact List.mem_append_left _ hx

theorem SegmentOk.received {s t : State} (h : SegmentOk s) (ht : Received s t) : SegmentOk t := by
  cases ht with
  | receiverOnly => exact h.same rfl rfl
  | discarded => exact h.same (by simp) (by simp)
  | delivered =>
    refine SegmentOk.admission ?_ _ _
    exact h.same rfl rfl

theorem sameActive_segmentReset (s : State) (own : Byte) : SameActive s (s.segmentReset own) := by
  refine sameActive_map _ (s.segmentReset_entries own) fun e _ => ?_
  unfold Entry.underReset
  cases hs : e.state <;> by_cases hp : e.resetAborts own = true <;>
    simp_all [Entry.SameWork, Entry.resetAborts, Entry.domain?, EntryState.isQueued, EntryState.isParked,
      EntryState.isLocal, EntryState.isActive]

/-- A reply sent to its end frees an entry that is DONE, so no ACTIVE one (R44). -/
theorem sameActive_replyGone {s : State} (ht : RequestTableOk s) {tag : Byte}
    (hs : s.uport.sending = some (.reply tag)) : SameActive s (s.replyGone tag) := by
  obtain ⟨-, htags, -, -, hsending, -⟩ := ht
  obtain ⟨-, y, hy, rfl, hyd⟩ := hsending tag hs
  have hentries : (s.replyGone y.tag).entries = s.entries.filter (·.tag != y.tag) := by
    simp [State.replyGone, State.freeEntry]
  refine ⟨fun e hmem hactive => ?_, fun x hx hactive => ⟨x, ?_, hactive, rfl⟩⟩
  · rw [hentries] at hmem
    exact ⟨e, (List.mem_filter.1 hmem).1, hactive, rfl, rfl, rfl⟩
  · rw [hentries, List.mem_filter]
    refine ⟨hx, ?_⟩
    simp only [bne_iff_ne]
    intro htag
    rw [eq_of_tag _ htags x y hx hy htag] at hactive
    cases hys : y.state <;> simp_all [EntryState.isActive, EntryState.isDone]

theorem SegmentOk.body {s t : State} {tag : Byte} {c : Instr} (h : SegmentOk s) (hb : Body s tag c t) :
    SegmentOk t := by
  cases hb with
  | domainMoved hm =>
    obtain ⟨d, cs, y, -, rfl⟩ := hm
    exact h.same (by simp) (by simp)
  | segmentReset => exact h.congr (sameActive_segmentReset s tag) (by rw [State.segmentReset_sport])
  | countersCleared => exact h.same (by simp) rfl
  | _ => exact h.same (by simp) (by simp)

/-- A grant makes its entry ACTIVE and names it in the record (R46, R130). -/
theorem segmentOk_grantEntry {s : State} (ht : RequestTableOk s) (h : NoActive s) {e : Entry} (he : e ∈ s.entries) :
    SegmentOk (s.grantEntry e) := by
  have hentries : (s.grantEntry e).entries = s.entries.map fun x =>
      if x.tag = e.tag then { x with state := .active false } else x := by
    simp [State.grantEntry, State.setEntryState]
  have hwork : (s.grantEntry e).sport.attempt.map Attempt.work = some (.entry e.tag, e.cmd, e.domain?) := rfl
  rw [segmentOk_iff_work, hwork, hentries]
  refine ⟨fun y hy hactive => ?_, fun tag c d hw => ?_⟩
  · obtain ⟨x, hx, rfl⟩ := List.mem_map.1 hy
    split at hactive
    next htag => rw [eq_of_tag _ ht.2.1 x e hx he htag, if_pos rfl]; rfl
    next => rw [h x hx] at hactive; cases hactive
  · injection hw with hw
    injection hw with hw
    injection hw with hw
    exact ⟨{ e with state := .active false }, List.mem_map.2 ⟨e, he, if_pos rfl⟩, hw, rfl⟩

theorem EntryState.isActive_of_isParked {x : EntryState} (h : x.isParked = true) : x.isActive = false := by
  cases x <;> simp_all [EntryState.isParked, EntryState.isActive]

/-- A body leaves the entry it serves in the table, and not ACTIVE. -/
theorem Body.entry_not_active {s t : State} {e : Entry} {c : Instr} (hs : (s.entries.map (·.tag)).Nodup)
    (he : s.oldestLocal = some e) (hb : Body s e.tag c t) :
    ∃ x ∈ t.entries, x.tag = e.tag ∧ x.state.isActive = false := by
  obtain ⟨hmem, hlocal⟩ := mem_of_oldestLocal he
  obtain ⟨x, hx, htag, -⟩ := hb.entry_waits he
  refine ⟨x, hx, htag, ?_⟩
  have hkept : SameActive s t := by
    cases hb with
    | domainMoved hm =>
      obtain ⟨d, cs, y, -, rfl⟩ := hm
      exact sameActive_of_entries (by simp)
    | segmentReset => exact sameActive_segmentReset s e.tag
    | _ => exact sameActive_of_entries (by simp)
  by_contra hactive
  obtain ⟨y, hy, hya, hytag, -⟩ := hkept.1 x hx (by simpa using hactive)
  rw [eq_of_tag _ hs y e hy hmem (hytag.trans htag), hlocal] at hya
  cases hya

theorem SPort.orphan_attempt (p : SPort) (a : Attempt) (h : p.orphan.attempt = some a) (tag : Byte) :
    a.exchange.originator ≠ .entry tag := by
  unfold SPort.orphan at h
  split at h
  next b hb =>
    split at h
    next => cases h; simp
    all_goals
      next ho =>
        rw [hb] at h
        cases h
        simp [ho]
  next hb => rw [hb] at h; cases h

theorem SegmentOk.effect {s t : State} {c : Instr} (ht : RequestTableOk s) (h : SegmentOk s) (he : Effect s c t) :
    SegmentOk t := by
  have htags := ht.2.1
  cases he with
  | nothing => exact h
  | character data mark =>
    refine SegmentOk.received ?_ (State.received_receive (s.onLine _) data mark)
    exact h.same rfl rfl
  | upstreamBreak =>
    refine segmentOk_of_noActive (fun e hmem => by simp at hmem) fun a ha => ?_
    exact s.sport.orphan_attempt a (by simpa using ha)
  | replySent tag hs => exact h.congr (sameActive_replyGone ht hs) (by simp)
  | parkExpired hf hp =>
    obtain ⟨hmem, rfl⟩ := mem_of_entry? s _ _ hf
    refine h.congr ((sameActive_finishEntry htags hmem (EntryState.isActive_of_isParked hp) .retry []).trans ?_)
      (by simp)
    exact sameActive_of_entries rfl
  | answered hl hb =>
    obtain ⟨x, hx, htag, ha⟩ := hb.entry_not_active htags hl
    rw [← htag]
    exact (h.body hb).congr (sameActive_finishEntry (ht.body hb).2.1 hx ha _ _) (by simp)
  | notServed hl =>
    obtain ⟨hmem, hlocal⟩ := mem_of_oldestLocal hl
    have hr : SegmentOk (s.raise .mgmtError) := h.same rfl rfl
    exact hr.congr (sameActive_finishEntry (s := s.raise .mgmtError) htags hmem (by rw [hlocal]; rfl) _ _) (by simp)
  | domainMoved hm =>
    obtain ⟨d, cs, y, -, rfl⟩ := hm
    exact h.same (by simp) (by simp)
  | settleFails =>
    exact h.congr ((sameActive_of_entries (by simp)).trans (sameActive_finishFaulted _ _))
      (by simp [State.attemptFails_sport])
  | settleRestores => exact h.congr (sameActive_enterRestoring _ _) (by simp)
  | pgFalls i p =>
    obtain ⟨notes, hn, -⟩ := (s.withPg p).powerGoodFalling_notes i
    exact h.congr ((sameActive_of_entries (by simp)).trans (sameActive_finishFaulted _ _)) (by simp [hn])
  | granted hfree hf => exact segmentOk_grantEntry ht ((segmentOk_free hfree).1 h) (mem_of_forwardCandidate hf).1
  | @grantedMaintenance d m hfree hm =>
    refine segmentOk_of_noActive (((segmentOk_free hfree).1 h).same (by simp)) fun a ha tag => ?_
    have ho : a.exchange.originator = m.originator := by
      simp only [State.grantMaintenance, State.beginAttempt, State.withSport_sport, Option.some.injEq] at ha
      rw [← ha]; rfl
    rw [ho]
    obtain ⟨_, _, -, -, hm, -⟩ | ⟨_, _, _, -, -, -, hm, -⟩ := maintenanceCandidate_due hm <;> simp [hm]
  | phase ha hy => exact h.congr (sameActive_of_entries rfl) (by simp [ha, Attempt.work, hy])
  | @ended c p x y o line ha hy =>
    have hd := State.delivered_deliver (s.freed line o) y o
    refine (segmentOk_free (hd.attempt.trans rfl)).2 (noActive_delivered (s := s.freed line o) htags
      (fun e hmem hactive => ?_) hd)
    obtain ⟨a, hs, ho, -⟩ := h.1 e hmem hactive
    rw [ha] at hs
    cases hs
    exact hy.1.trans ho
  | _ => exact h.same (by simp) (by simp)

theorem SegmentOk.tick {s : State} (h : SegmentOk s) : SegmentOk s.tick := by
  refine h.congr (sameActive_map Entry.tick (by simp) fun e _ => ?_) (by simp)
  cases hs : e.state <;> simp [Entry.SameWork, Entry.tick, Entry.domain?, EntryState.isActive, hs]

/-- Settles O56: with the table's law, which gives a tag one entry, every effect keeps the segment's law. -/
theorem stepKeepsSegmentLaw : Obligations.StepKeepsSegmentLaw := fun _ _ ht h hstep =>
  (step_keeps (P := fun s => RequestTableOk s ∧ SegmentOk s)
    (fun pins waiting => ⟨requestTableOk_powerOn pins waiting, segmentOk_powerOn pins waiting⟩)
    (fun _ _ ⟨ht, h⟩ => ⟨ht.same rfl rfl rfl, h.same rfl rfl⟩) (fun _ ⟨ht, h⟩ => ⟨ht.tick, h.tick⟩)
    (fun s _ ⟨ht, h⟩ => ⟨ht.announce s, h.same (by simp) (by simp)⟩)
    (fun _ _ _ ⟨ht, h⟩ he => ⟨ht.effect he, h.effect ht he⟩) ⟨ht, h⟩ hstep).2

end Sys2Proof.Machine
end

section
/-! PROOFS. The shadow store's law is kept by every step, and a restoring domain's list by every event but a reset. -/
namespace Sys2Proof.Machine

/-! ## The keys of a store (R103, R104) -/

/-- The store's own law: at most 192 entries, no two with one key, and the cursor on an entry of the selected list or
at the end (R104, R122). -/
structure ShadowStore.Lawful (h : ShadowStore) : Prop where
  room : h.used ≤ 192
  distinct : h.keys.Nodup
  cursor : ∀ k, h.position = some k → ∃ d, h.selected = some d ∧ holdsKey (h.list d) k = true

theorem lawful_iff (s : State) : s.shadow.Lawful ↔ ShadowOk s ∧ CursorOk s :=
  ⟨fun h => ⟨⟨h.room, h.distinct⟩, h.cursor⟩, fun h => ⟨h.1.1, h.1.2, h.2⟩⟩

/-- No two entries of a store share a key: within each list, and between any two. -/
theorem ShadowStore.keys_nodup_iff (h : ShadowStore) :
    h.keys.Nodup ↔
      (∀ d, ((h.list d).map (·.key)).Nodup)
        ∧ ∀ d e k, holdsKey (h.list d) k = true → holdsKey (h.list e) k = true → d = e := by
  have hpair : (∀ d e k, holdsKey (h.list d) k = true → holdsKey (h.list e) k = true → d = e)
      ↔ ∀ d e, d ≠ e → List.Disjoint ((h.list d).map (·.key)) ((h.list e).map (·.key)) := by
    simp only [holdsKey_iff, List.Disjoint, List.mem_map]
    exact ⟨fun hd d e hne k hk hk' => hne (hd d e k hk hk'),
      fun hd d e k hk hk' => by_contra fun hne => hd d e hne hk hk'⟩
  rw [ShadowStore.keys, List.map_flatMap, List.nodup_flatMap, hpair]
  refine and_congr ⟨fun hl d => hl d (mem_allDomains d), fun hl d _ => hl d⟩ ⟨fun hl d e hne => ?_, fun hl => ?_⟩
  · have hsym : Std.Symm (Function.onFun List.Disjoint fun d => (h.list d).map (·.key)) := ⟨fun _ _ hxy => hxy.symm⟩
    exact hl.forall (mem_allDomains d) (mem_allDomains e) hne
  · exact allDomains_nodup.imp fun hne => hl _ _ hne

/-- The number of entries where one list is replaced. -/
theorem ShadowStore.used_setList (h : ShadowStore) (d : DomainId) (l : List ShadowEntry) :
    (h.setList d l).used + (h.list d).length = h.used + l.length := by
  have hsum : ∀ g : ShadowStore, g.used = ∑ e, (g.list e).length := fun g => by
    simp [ShadowStore.used, ShadowStore.count, allDomains, Fin.sum_univ_eight, Nat.add_assoc]
  rw [hsum, hsum, ← Finset.add_sum_erase _ _ (Finset.mem_univ d),
    ← Finset.add_sum_erase (a := d) (f := fun e => (h.list e).length) _ (Finset.mem_univ d),
    ShadowStore.list_setList_self]
  have hrest : ∑ e ∈ Finset.univ.erase d, ((h.setList d l).list e).length
      = ∑ e ∈ Finset.univ.erase d, (h.list e).length :=
    Finset.sum_congr rfl fun e he => by rw [ShadowStore.list_setList_ne h l (Finset.ne_of_mem_erase he)]
  omega

/-- What a store holds is read from its lists alone. -/
theorem ShadowStore.used_keys_congr {g h : ShadowStore} (hl : ∀ d, g.list d = h.list d) :
    g.used = h.used ∧ g.keys = h.keys := by
  have hlists : g.list = h.list := funext hl
  have hcounts : g.count = h.count := funext fun d => congrArg List.length (hl d)
  exact ⟨by rw [ShadowStore.used, hcounts]; rfl, by rw [ShadowStore.keys, hlists]; rfl⟩

/-! ## A key leaves a list -/

theorem mem_dropKey {l : List ShadowEntry} {k : Key} {y : ShadowEntry} : y ∈ dropKey l k ↔ y ∈ l ∧ y.key ≠ k := by
  simp [dropKey]

theorem holdsKey_dropKey (l : List ShadowEntry) (k k' : Key) :
    holdsKey (dropKey l k) k' = true ↔ holdsKey l k' = true ∧ k' ≠ k := by
  simp only [holdsKey_iff, mem_dropKey]
  constructor
  · rintro ⟨y, ⟨hy, hne⟩, rfl⟩
    exact ⟨⟨y, hy, rfl⟩, hne⟩
  · rintro ⟨⟨y, hy, rfl⟩, hne⟩
    exact ⟨y, ⟨hy, hne⟩, rfl⟩

theorem holdsKey_append (l : List ShadowEntry) (x : ShadowEntry) (k : Key) :
    holdsKey (l ++ [x]) k = true ↔ holdsKey l k = true ∨ x.key = k := by
  simp [holdsKey]

/-- A list loses an entry where its key is dropped. -/
theorem length_dropKey_lt {l : List ShadowEntry} {k : Key} (h : holdsKey l k = true) :
    (dropKey l k).length < l.length := by
  obtain ⟨y, hy, rfl⟩ := (holdsKey_iff _ _).1 h
  exact List.length_filter_lt_length_iff_exists.2 ⟨y, hy, by simp⟩

theorem holdsKey_of_follower {l : List ShadowEntry} {k k' : Key} (h : follower k l = some k') :
    holdsKey l k' = true := by
  induction l with
  | nil => cases h
  | cons y rest ih =>
    rw [holdsKey, List.any_cons, Bool.or_eq_true]
    unfold follower at h
    split at h
    next =>
      obtain ⟨z, hz, rfl⟩ := Option.map_eq_some_iff.1 h
      exact .inr ((holdsKey_iff rest _).2 ⟨z, List.mem_of_head? hz, rfl⟩)
    next => exact .inr (ih h)

/-- The follower of an entry is another entry, keys being distinct. -/
theorem follower_ne {l : List ShadowEntry} {k k' : Key} (hn : (l.map (·.key)).Nodup) (h : follower k l = some k') :
    k' ≠ k := by
  induction l with
  | nil => cases h
  | cons y rest ih =>
    rw [List.map_cons, List.nodup_cons] at hn
    unfold follower at h
    split at h
    next hy =>
      obtain ⟨z, hz, rfl⟩ := Option.map_eq_some_iff.1 h
      rintro hzk
      rw [hy, ← hzk] at hn
      exact hn.1 (List.mem_map_of_mem (List.mem_of_head? hz))
    next => exact ih hn.2 h

theorem ShadowStore.holdsKey_of_holder {h : ShadowStore} {k : Key} {d : DomainId} (hd : h.holder k = some d) :
    holdsKey (h.list d) k = true :=
  List.find?_some (p := fun d => holdsKey (h.list d) k) hd

theorem ShadowStore.holdsKey_of_holder_none {h : ShadowStore} {k : Key} (hn : h.holder k = none) (d : DomainId) :
    holdsKey (h.list d) k = false := by
  simpa using List.find?_eq_none.1 hn d (mem_allDomains d)

/-! ## The law of the store under each of its operations -/

namespace ShadowStore.Lawful
variable {h : ShadowStore}

theorem congr {g : ShadowStore} (hh : h.Lawful) (hl : ∀ d, g.list d = h.list d)
    (hc : ∀ k, g.position = some k → ∃ d, g.selected = some d ∧ holdsKey (g.list d) k = true) : g.Lawful := by
  obtain ⟨hused, hkeys⟩ := ShadowStore.used_keys_congr hl
  exact ⟨hused ▸ hh.room, hkeys ▸ hh.distinct, hc⟩

/-- One list replaced by a part of itself. -/
theorem shrunk {g : ShadowStore} (hh : h.Lawful) {d : DomainId} {l : List ShadowEntry} (hl : l.Sublist (h.list d))
    (hg : ∀ e, g.list e = (h.setList d l).list e)
    (hc : ∀ k, g.position = some k → ∃ e, g.selected = some e ∧ holdsKey (g.list e) k = true) : g.Lawful := by
  obtain ⟨hused, hkeys⟩ := ShadowStore.used_keys_congr hg
  obtain ⟨hnodup, hdisjoint⟩ := (ShadowStore.keys_nodup_iff h).1 hh.distinct
  have hsub : ∀ e, ((h.setList d l).list e).Sublist (h.list e) := fun e => by
    by_cases he : e = d
    · subst he; rwa [ShadowStore.list_setList_self]
    · rw [ShadowStore.list_setList_ne h l he]
  have hholds : ∀ e k, holdsKey ((h.setList d l).list e) k = true → holdsKey (h.list e) k = true := fun e k hk => by
    obtain ⟨y, hy, rfl⟩ := (holdsKey_iff _ _).1 hk
    exact (holdsKey_iff _ _).2 ⟨y, (hsub e).subset hy, rfl⟩
  refine ⟨?_, ?_, hc⟩
  · have := h.used_setList d l
    have := hl.length_le
    have := hh.room
    omega
  · rw [hkeys, ShadowStore.keys_nodup_iff]
    exact ⟨fun e => (hnodup e).sublist ((hsub e).map _),
      fun e f k he hf => hdisjoint e f k (hholds e k he) (hholds f k hf)⟩

theorem remove (hh : h.Lawful) (d : DomainId) (k : Key) : (h.remove d k).Lawful := by
  have hnodup := ((ShadowStore.keys_nodup_iff h).1 hh.distinct).1 d
  have hlists : ∀ e, (h.remove d k).list e = (h.setList d (dropKey (h.list d) k)).list e := fun e => by
    by_cases he : e = d
    · subst he; simp
    · rw [ShadowStore.list_remove_ne h k he, ShadowStore.list_setList_ne h _ he]
  refine hh.shrunk List.filter_sublist hlists fun k' hk' => ?_
  rw [ShadowStore.remove_position] at hk'
  rw [ShadowStore.remove_selected]
  split at hk'
  next hc =>
    refine ⟨d, hc.1, ?_⟩
    rw [ShadowStore.list_remove_self, holdsKey_dropKey]
    exact ⟨holdsKey_of_follower hk', follower_ne hnodup hk'⟩
  next hc =>
    obtain ⟨e, he, hk⟩ := hh.cursor k' hk'
    refine ⟨e, he, ?_⟩
    by_cases hed : e = d
    · subst hed
      rw [ShadowStore.list_remove_self, holdsKey_dropKey]
      exact ⟨hk, fun hkk => hc ⟨he, hkk ▸ hk'⟩⟩
    · rwa [ShadowStore.list_remove_ne h k hed]

theorem append (hh : h.Lawful) {d : DomainId} {x : ShadowEntry} (hroom : h.used < 192)
    (hnew : ∀ e, holdsKey (h.list e) x.key = false) : (h.append d x).Lawful := by
  obtain ⟨hnodup, hdisjoint⟩ := (ShadowStore.keys_nodup_iff h).1 hh.distinct
  have hholds : ∀ e k, holdsKey ((h.append d x).list e) k = true
      ↔ holdsKey (h.list e) k = true ∨ e = d ∧ x.key = k := fun e k => by
    by_cases he : e = d
    · subst he; simp [holdsKey_append]
    · simp [ShadowStore.list_append_ne h x he, he]
  refine ⟨?_, ?_, fun k hk => ?_⟩
  · have := h.used_setList d (h.list d ++ [x])
    simp only [List.length_append, List.length_singleton] at this
    unfold ShadowStore.append
    omega
  · rw [ShadowStore.keys_nodup_iff]
    refine ⟨fun e => ?_, fun e f k he hf => ?_⟩
    · by_cases he : e = d
      · subst he
        rw [ShadowStore.list_append_self, List.map_append, List.nodup_append]
        refine ⟨hnodup e, by simp, ?_⟩
        rintro _ hmem _ hx rfl
        obtain ⟨y, hy, hyk⟩ := List.mem_map.1 hmem
        have hheld := (holdsKey_iff _ _).2 ⟨y, hy, hyk.trans (by simpa using hx)⟩
        rw [hnew e] at hheld
        cases hheld
      · rw [ShadowStore.list_append_ne h x he]
        exact hnodup e
    · rw [hholds] at he hf
      obtain he | ⟨he, hx⟩ := he <;> obtain hf | ⟨hf, hx'⟩ := hf
      · exact hdisjoint e f k he hf
      · rw [← hx', hnew e] at he; cases he
      · rw [← hx, hnew f] at hf; cases hf
      · rw [he, hf]
  · obtain ⟨e, he, hk⟩ := hh.cursor k hk
    exact ⟨e, he, (hholds e k).2 (.inl hk)⟩

/-- An entry moved from the list that holds its key to the tail of another, or of its own (R108, R109). -/
theorem remove_append (hh : h.Lawful) {d e : DomainId} {x : ShadowEntry} (he : holdsKey (h.list e) x.key = true) :
    ((h.remove e x.key).append d x).Lawful := by
  have hdisjoint := ((ShadowStore.keys_nodup_iff h).1 hh.distinct).2
  refine (hh.remove e x.key).append ?_ fun f => ?_
  · have hlists : ∀ f, (h.remove e x.key).list f = (h.setList e (dropKey (h.list e) x.key)).list f := fun f => by
      by_cases hf : f = e
      · subst hf; simp
      · rw [ShadowStore.list_remove_ne h _ hf, ShadowStore.list_setList_ne h _ hf]
    have := h.used_setList e (dropKey (h.list e) x.key)
    have := length_dropKey_lt he
    have := hh.room
    rw [(ShadowStore.used_keys_congr hlists).1]
    omega
  · rw [Bool.eq_false_iff]
    intro hf
    by_cases hfe : f = e
    · subst hfe
      rw [ShadowStore.list_remove_self, holdsKey_dropKey] at hf
      exact hf.2 rfl
    · rw [ShadowStore.list_remove_ne h _ hfe] at hf
      exact hfe (hdisjoint f e _ hf he)

theorem recapture (hh : h.Lawful) {d : DomainId} {x : ShadowEntry} (hd : holdsKey (h.list d) x.key = true) :
    (h.recapture d x).Lawful := by
  have hmoved := hh.remove_append (d := d) hd
  unfold ShadowStore.recapture
  split
  · -- the tail recaptured: the lists are those of a removal and an append, and the cursor has not moved
    have hself : (h.setList d (dropKey (h.list d) x.key ++ [x])).list d = dropKey (h.list d) x.key ++ [x] := by simp
    refine hmoved.congr (fun e => ?_) fun k hk => ?_
    · by_cases he : e = d
      · subst he; simp
      · rw [ShadowStore.list_setList_ne h _ he, ShadowStore.list_append_ne _ _ he, ShadowStore.list_remove_ne h _ he]
    · obtain ⟨e, he, hheld⟩ := hh.cursor k hk
      refine ⟨e, he, ?_⟩
      by_cases hed : e = d
      · subst hed
        rw [hself, holdsKey_append, holdsKey_dropKey]
        by_cases hkx : k = x.key
        · exact .inr hkx.symm
        · exact .inl ⟨hheld, hkx⟩
      · rwa [ShadowStore.list_setList_ne h _ hed]
  · exact hmoved

theorem clear (hh : h.Lawful) (d : DomainId) : (h.clear d).Lawful := by
  refine hh.shrunk (d := d) (List.nil_sublist _) (fun _ => rfl) fun k hk => ?_
  simp only [ShadowStore.clear] at hk
  split at hk
  next => cases hk
  next hsel =>
    obtain ⟨e, he, hheld⟩ := hh.cursor k hk
    refine ⟨e, he, ?_⟩
    have hed : e ≠ d := fun hed => hsel (hed ▸ he)
    have hlist : (h.clear d).list e = h.list e := ShadowStore.list_setList_ne h _ hed
    rwa [hlist]

theorem select (hh : h.Lawful) (d : DomainId) : (h.select d).Lawful := by
  refine hh.congr (fun _ => rfl) fun k hk => ⟨d, rfl, ?_⟩
  obtain ⟨y, hy, rfl⟩ := Option.map_eq_some_iff.1 hk
  exact (holdsKey_iff _ _).2 ⟨y, List.mem_of_head? hy, rfl⟩

theorem advance (hh : h.Lawful) : h.advance.Lawful := by
  unfold ShadowStore.advance
  split
  next d k hd _ =>
    exact hh.congr (fun _ => rfl) fun k' hk' => ⟨d, hd, holdsKey_of_follower hk'⟩
  next => exact hh

end ShadowStore.Lawful

/-! ## What a command can do to the store -/

/-- Where an entry is put (R107, R119): its own domain is not in RESTORING, and the key is its own list's, or another
list's whose domain is not in RESTORING either, or new with a slot free. -/
theorem State.storePut_cases {s : State} {d : DomainId} {x : ShadowEntry} {h : ShadowStore}
    (hput : s.storePut d x = some h) :
    (s.dom d).state.isRestoring = false
      ∧ (holdsKey (s.shadow.list d) x.key = true ∧ h = s.shadow.recapture d x
        ∨ (∃ e, holdsKey (s.shadow.list e) x.key = true ∧ (s.dom e).state.isRestoring = false
            ∧ h = (s.shadow.remove e x.key).append d x)
        ∨ (∀ e, holdsKey (s.shadow.list e) x.key = false) ∧ s.shadow.used < 192 ∧ h = s.shadow.append d x) := by
  cases hd : (s.dom d).state.isRestoring with
  | true => rw [State.storePut_ownRestoring hd] at hput; cases hput
  | false =>
    refine ⟨rfl, ?_⟩
    cases hown : holdsKey (s.shadow.list d) x.key with
    | true =>
      rw [State.storePut_ownList hd hown] at hput
      cases hput
      exact .inl ⟨rfl, rfl⟩
    | false =>
      cases hholder : s.shadow.holder x.key with
      | some e =>
        cases he : (s.dom e).state.isRestoring with
        | true => rw [State.storePut_holderRestoring hown hholder he] at hput; cases hput
        | false =>
          rw [State.storePut_otherList hd hown hholder he] at hput
          cases hput
          exact .inr (.inl ⟨e, ShadowStore.holdsKey_of_holder hholder, he, rfl⟩)
      | none =>
        have hnew := ShadowStore.holdsKey_of_holder_none hholder
        by_cases hroom : s.shadow.used < 192
        · rw [State.storePut_newKey hd hnew hroom] at hput
          cases hput
          exact .inr (.inr ⟨hnew, hroom, rfl⟩)
        · rw [State.storePut_poolFull hnew (Nat.le_of_not_lt hroom)] at hput
          cases hput

/-- What one event can do to the store, the power-on reset apart. -/
inductive ShadowStep (s : State) : ShadowStore → Prop
  | same : ShadowStep s s.shadow
  | marked (d : DomainId) : ShadowStep s { s.shadow with incomplete := s.shadow.incomplete.set d true }
  | put {d : DomainId} {x : ShadowEntry} {h : ShadowStore} (hput : s.storePut d x = some h) : ShadowStep s h
  | cleared {d : DomainId} (h : (s.dom d).state.isRestoring = false) : ShadowStep s (s.shadow.clear d)
  | selected (d : DomainId) : ShadowStep s (s.shadow.select d)
  | advanced : ShadowStep s s.shadow.advance
  | removed {d : DomainId} (k : Key) (h : (s.dom d).state.isRestoring = false) : ShadowStep s (s.shadow.remove d k)

theorem ShadowStep.of_eq {s : State} {h : ShadowStore} (he : h = s.shadow) : ShadowStep s h := he ▸ .same

theorem ShadowStep.lawful {s : State} {h : ShadowStore} (hs : s.shadow.Lawful) (hstep : ShadowStep s h) : h.Lawful := by
  cases hstep with
  | same => exact hs
  | marked => exact hs.congr (fun _ => rfl) hs.cursor
  | put hput =>
    obtain ⟨-, ⟨hown, rfl⟩ | ⟨e, he, -, rfl⟩ | ⟨hnew, hroom, rfl⟩⟩ := State.storePut_cases hput
    · exact hs.recapture hown
    · exact hs.remove_append he
    · exact hs.append hroom hnew
  | cleared => exact hs.clear _
  | selected => exact hs.select _
  | advanced => exact hs.advance
  | removed => exact hs.remove _ _

theorem ShadowStore.list_advance (h : ShadowStore) (d : DomainId) : h.advance.list d = h.list d := by
  unfold ShadowStore.advance
  split <;> rfl

/-- No event changes the list of a domain in RESTORING (R113). -/
theorem ShadowStep.list_of_restoring {s : State} {h : ShadowStore} (hstep : ShadowStep s h) {d : DomainId}
    (hd : (s.dom d).state.isRestoring = true) : h.list d = s.shadow.list d := by
  -- a list whose domain is not in RESTORING is another's
  have hne : ∀ {e}, (s.dom e).state.isRestoring = false → d ≠ e := fun he hde => by rw [hde, he] at hd; cases hd
  cases hstep with
  | same | marked | selected => rfl
  | put hput =>
    obtain ⟨hrestoring, ⟨-, rfl⟩ | ⟨e, -, he, rfl⟩ | ⟨-, -, rfl⟩⟩ := State.storePut_cases hput
    · exact ShadowStore.list_recapture_ne _ _ (hne hrestoring)
    · rw [ShadowStore.list_append_ne _ _ (hne hrestoring), ShadowStore.list_remove_ne _ _ (hne he)]
    · exact ShadowStore.list_append_ne _ _ (hne hrestoring)
  | cleared hc => exact ShadowStore.list_setList_ne s.shadow _ (hne hc)
  | advanced => exact ShadowStore.list_advance _ _
  | removed k hr => exact ShadowStore.list_remove_ne _ _ (hne hr)

theorem shadowStep_storeAfter (s : State) (x : Exchange) (o : AttemptOutcome) : ShadowStep s (storeAfter s x o) := by
  unfold storeAfter
  split
  next d _ =>
    split
    next h hcapture =>
      unfold captureOf at hcapture
      split at hcapture
      · exact .put hcapture
      · cases hcapture
    next => exact .marked d
  next => exact .same

theorem Delivered.shadow {s t : State} {x : Exchange} {o : AttemptOutcome} (h : Delivered s x o t) :
    ShadowStep s t.shadow := by
  cases h with
  | @entry e abort _ _ _ =>
    have hoffer := (offerOutcome_eq s (s.entryOutcome e abort o) x o (by simp) (by simp)).1
    simp only [State.drainDomain_frame, hoffer]
    exact shadowStep_storeAfter s x o
  | orphan =>
    have hoffer := (offerOutcome_eq s s x o rfl rfl).1
    simp only [State.drainDomain_frame, hoffer]
    exact shadowStep_storeAfter s x o
  | _ => exact .of_eq (by simp)

theorem Body.shadow {s t : State} {tag : Byte} {c : Instr} (h : Body s tag c t) : ShadowStep s t.shadow := by
  cases h with
  | shadowCleared hr => exact .cleared hr
  | selected d => exact .selected d
  | advanced => exact .advanced
  | inserted hput => exact .put hput
  | deleted _ hr => exact .removed _ hr
  | domainMoved hm =>
    obtain ⟨d, cs, y, -, rfl⟩ := hm
    exact .of_eq (by simp)
  | _ => exact .of_eq (by simp)

/-- Every effect does one of these to the store. -/
theorem Effect.shadow {s t : State} {c : Instr} (h : Effect s c t) : ShadowStep s t.shadow := by
  cases h with
  | answered _ hb => simpa using hb.shadow
  | domainMoved hm =>
    obtain ⟨d, cs, y, -, rfl⟩ := hm
    exact .of_eq (by simp)
  | @ended c p x y o line _ _ =>
    -- the S-port freed, store and domains are still those before the event
    have hstep := ((s.freed line o).delivered_deliver y o).shadow
    revert hstep
    generalize ((s.freed line o).deliver y o).shadow = h
    intro hstep
    cases hstep with
    | same => exact .same
    | marked d => exact .marked d
    | put hput => exact .put (storePut_congr s (s.freed line o) rfl rfl _ _ ▸ hput)
    | cleared hr => exact .cleared hr
    | selected d => exact .selected d
    | advanced => exact .advanced
    | removed k hr => exact .removed k hr
  | _ => exact .of_eq (by simp)

/-- Settles O57. -/
theorem stepKeepsShadowLaw : Obligations.StepKeepsShadowLaw := fun s t hok hcursor hstep =>
  (lawful_iff t).1 <| step_keeps (P := fun s => s.shadow.Lawful)
    (fun pins waiting => (lawful_iff _).2 ⟨shadowOk_powerOn pins waiting, cursorOk_powerOn pins waiting⟩)
    (fun _ _ h => h) (fun _ h => h) (fun s t h => by simpa using h) (fun _ _ _ h he => he.shadow.lawful h)
    ((lawful_iff s).2 ⟨hok, hcursor⟩) hstep

/-- Settles O30. -/
theorem restoringListDoesNotChange : Obligations.RestoringListDoesNotChange := by
  intro c s t d h hreset hd
  obtain ⟨pins, hc, -⟩ | ⟨u, rfl, he⟩ := exec_inversion h
  · exact absurd hc (hreset pins)
  · rw [announce_shadow]
    exact he.shadow.list_of_restoring hd

end Sys2Proof.Machine
end

section
/-! PROOFS. What an event makes of one domain and of its retry note: one inversion lemma, and the law of replay
positions
and retry notes from it. -/
namespace Sys2Proof.Machine

/-! ## One domain and its retry note -/

theorem get_set_eq {n : Nat} {α : Type} (v : Vector α n) (i j : Fin n) (x : α) :
    (v.set i x).get j = if j = i then x else v.get j := by
  by_cases h : j = i
  · subst h; simp
  · rw [get_set_ne v x h, if_neg h]

/-- A domain whose wake attempt has failed (R91, R92). -/
def Domain.failedAttempt (x : Domain) (cause : FaultCause) : Domain :=
  if x.attempt < x.config.wakeLimit.toNat then
    Domain.cooled { x with failedCount := satInc x.failedCount, pendingWake := true }
  else { x with failedCount := satInc x.failedCount, state := .fault, cause := cause, pendingWake := false }

/-- A domain that has reached ON (R90). -/
def Domain.reachedOn (x : Domain) : Domain :=
  { x with
    state := .on x.config.idleLoad, attempt := 0, pendingWake := false, wakeCount := satInc x.wakeCount }

/-- A domain that has lost its power good in service (R95). -/
def Domain.faulted (x : Domain) (cause : FaultCause) : Domain :=
  { x with state := .fault, cause := cause, pendingWake := false }

theorem State.dom_attemptFails (s : State) (d e : DomainId) (cause : FaultCause) :
    (s.attemptFails d cause).dom e = if e = d then (s.dom d).failedAttempt cause else s.dom e := by
  unfold Domain.failedAttempt
  by_cases hl : (s.dom d).attempt < (s.dom d).config.wakeLimit.toNat
  · rw [attemptFails_again s d cause hl, setDom_dom_of, if_pos hl]; simp
  · rw [attemptFails_last s d cause (Nat.le_of_not_lt hl), setDom_dom_of, if_neg hl]; simp

theorem State.dom_reachOn (s : State) (d e : DomainId) :
    (s.reachOn d).dom e = if e = d then (s.dom d).reachedOn else s.dom e := by
  simp [State.reachOn, setDom_dom_of, Domain.reachedOn]

/-- A falling acts by the domain's state: FAULT in service, a failed attempt in CHECKING and RESTORING (R95). -/
theorem Domain.powerLost_cases (x : Domain) :
    (x.state.inService = true ∧ x.state.fallActs = true ∧ x.powerLost = x.faulted .powerLost)
      ∨ (x.state.inAttempt = true ∧ x.state.fallActs = true ∧ x.powerLost = x.failedAttempt .pgLow)
      ∨ (x.state.fallActs = false ∧ x.powerLost = x) := by
  cases hs : x.state <;>
    simp [Domain.powerLost, hs, DomState.inService, DomState.inAttempt, DomState.fallActs, Domain.faulted,
      Domain.failedAttempt]

/-- What one event can make of a domain `x` and of its retry note, the power-on reset apart; `l` is its list after it,
`mgmt` the
management address. Of a domain that enters RESTORING or reaches ON the note is cleared, but for one that comes from
SETTLING, where it can have none. -/
inductive DomainStep (mgmt : Byte) (l : List ShadowEntry) (x : Domain) (old : Option RetryNote) :
    Instr → Domain → Option RetryNote → Prop
  | moved {c : Instr} {noWork : Prop} {y : Domain} (h : Domain.Moves noWork x y) : DomainStep mgmt l x old c y old
  | granted (h : x.state.inAttempt = true) :
      DomainStep mgmt l x old .grant { x with state := x.state.markGranted } none
  | retried {c : Instr} {note : RetryNote} (h : x.state.asked note.work) : DomainStep mgmt l x old c x (some note)
  | failed {c : Instr} (cause : FaultCause) (h : x.state.inAttempt = true) :
      DomainStep mgmt l x old c (x.failedAttempt cause) none
  | powerLost {c : Instr} (h : x.state.inService = true) : DomainStep mgmt l x old c (x.faulted .powerLost) none
  | restores {c : Instr} {k : Key} {note : Option RetryNote} (h : x.state.inAttempt = true)
      (hk : holdsKey l k = true) (hn : note = none ∨ (∃ n, x.state = .settling n) ∧ note = old) :
      DomainStep mgmt l x old c { x with state := .restoring k false } note
  | reachesOn {c : Instr} {note : Option RetryNote} (h : x.state.inAttempt = true)
      (hn : note = none ∨ (∃ n, x.state = .settling n) ∧ note = old) : DomainStep mgmt l x old c x.reachedOn note
  | configured {config : DomainConfig} (h : KeptOr x.config config (ConfigOk mgmt)) :
      DomainStep mgmt l x old .domainConfigWrite (x.configure config) old
  | faultCleared (h : x.state = .fault) :
      DomainStep mgmt l x old .clearFault { x with state := .off, attempt := 0, cause := .none } old
  | reset : DomainStep mgmt l x old .segmentReset x.segmentReset none
  | countsCleared : DomainStep mgmt l x old .clearCounters x.clearCounts old

/-- Domain `d` and its note change between `s` and `t` as one event can change them. -/
def DomainChange (s t : State) (d : DomainId) (c : Instr) : Prop :=
  DomainStep s.mgmtAddress (t.shadow.list d) (s.dom d) (s.sport.notes.get d) c (t.dom d) (t.sport.notes.get d)

theorem SPort.orphan_notes (p : SPort) : p.orphan.notes = p.notes := by
  unfold SPort.orphan
  split
  · split <;> rfl
  · rfl

namespace DomainChange
variable {s t u : State} (d : DomainId) (c : Instr)

theorem of {d : DomainId} {c : Instr} {y : Domain} {note : Option RetryNote} (hd : t.dom d = y)
    (hn : t.sport.notes.get d = note)
    (h : DomainStep s.mgmtAddress (t.shadow.list d) (s.dom d) (s.sport.notes.get d) c y note) :
    DomainChange s t d c := by
  rw [DomainChange, hd, hn]
  exact h

theorem kept (hd : t.dom d = s.dom d) (hn : t.sport.notes.get d = s.sport.notes.get d) : DomainChange s t d c :=
  .of hd hn (.moved (noWork := True) .stays)

/-- Nothing happens to the domains and the notes. -/
theorem same (hd : t.domains = s.domains) (hn : t.sport.notes = s.sport.notes) : DomainChange s t d c :=
  .kept d c (by simp [State.dom, hd]) (by rw [hn])

/-- What is set aside before the event, and what it does besides, to neither domains nor notes. -/
theorem congr {d : DomainId} {c : Instr} {u v : State} (h : DomainChange u v d c)
    (hs : u.domains = s.domains ∧ u.sport.notes = s.sport.notes ∧ u.straps = s.straps)
    (ht : t.domains = v.domains ∧ t.sport.notes = v.sport.notes ∧ t.shadow = v.shadow) : DomainChange s t d c := by
  obtain ⟨hsd, hsn, hsm⟩ := hs
  obtain ⟨htd, htn, hts⟩ := ht
  simpa only [DomainChange, State.mgmtAddress, State.dom, hsd, hsn, hsm, htd, htn, hts] using h

/-- An event on domain `e` alone. -/
theorem single {e : DomainId} {y : Domain} {note : Option RetryNote}
    (hd : ∀ d, t.dom d = if d = e then y else s.dom d)
    (hn : ∀ d, t.sport.notes.get d = if d = e then note else s.sport.notes.get d)
    (h : DomainStep s.mgmtAddress (t.shadow.list e) (s.dom e) (s.sport.notes.get e) c y note) :
    DomainChange s t d c := by
  by_cases hde : d = e
  · subst hde
    exact .of (by rw [hd, if_pos rfl]) (by rw [hn, if_pos rfl]) h
  · exact .kept d c (by rw [hd, if_neg hde]) (by rw [hn, if_neg hde])

/-- An event that sets domain `e`, the notes left alone. -/
theorem setDom {e : DomainId} {y : Domain} (hn : u.sport.notes = s.sport.notes) (hd : u.domains = s.domains)
    (h : DomainStep s.mgmtAddress (u.shadow.list e) (s.dom e) (s.sport.notes.get e) c y (s.sport.notes.get e)) :
    DomainChange s (u.setDom e y) d c := by
  refine .single d c (fun d => ?_) (fun d => ?_) h
  · rw [setDom_dom_of, State.dom, hd]; rfl
  · rw [(u.setDom_frame e y).2.2.2.2.2.2.2.2.1, hn]
    split
    next he => rw [he]
    next => rfl

theorem domainMoved (h : DomainMoved s t) : DomainChange s t d c := by
  obtain ⟨e, cs, y, hy, rfl⟩ := h
  exact .setDom d c (by simp) (by simp) (.moved hy)

theorem body {tag : Byte} {c : Instr} (h : Body s tag c t) : DomainChange s t d c := by
  cases h with
  | domainMoved hm => exact .domainMoved d c hm
  | domainConfigs hcs => exact .of (by simp) rfl (.configured (hcs d))
  | faultCleared hf => exact .setDom d _ rfl rfl (.faultCleared hf)
  | segmentReset => exact .of (s.dom_segmentReset tag d) (by simp [State.segmentReset_sport]) .reset
  | countersCleared => exact .of (s.dom_clearCounters d) rfl .countsCleared
  | _ => exact .same d _ (by simp) (by simp)

/-! ### The events that act on one domain -/

section One
variable {e : DomainId} (hd : u.domains = s.domains)
  (hn : ∀ d, d ≠ e → u.sport.notes.get d = s.sport.notes.get d) (he : (s.dom e).state.inAttempt = true)
  (hclear : u.sport.notes.get e = none
    ∨ (∃ n, (s.dom e).state = .settling n) ∧ u.sport.notes.get e = s.sport.notes.get e)
include hd

theorem dom_eq (d : DomainId) : u.dom d = s.dom d := by simp [State.dom, hd]

include hn he in
/-- A wake attempt fails, its note already cleared or still to be (R91). -/
theorem attemptFails (cause : FaultCause) : DomainChange s (u.attemptFails e cause) d c := by
  refine .single d c (fun d => ?_) (fun d => ?_) (.failed cause he)
  · rw [State.dom_attemptFails, dom_eq hd, dom_eq hd]
  · rw [State.attemptFails_sport, get_set_eq]
    split
    next => rfl
    next hde => exact hn d hde

omit hd in
include hn in
theorem notes_eq (d : DomainId) :
    u.sport.notes.get d = if d = e then u.sport.notes.get e else s.sport.notes.get d := by
  split
  next hde => rw [hde]
  next hde => exact hn d hde

include hn he hclear in
/-- The domain reaches ON, its note cleared where it may have had one (R90). -/
theorem reachOn : DomainChange s (u.reachOn e) d c := by
  refine .single d c (fun d => ?_) (fun d => ?_) (.reachesOn he hclear)
  · rw [State.dom_reachOn, dom_eq hd, dom_eq hd]
  · rw [(u.reachOn_frame e).2.2.2.2.2.2.2.1]
    exact notes_eq hn d

include hn he hclear in
/-- The domain stands in RESTORING before the entry of a key its list holds (R112, R115). -/
theorem setRestoring {k : Key} (hk : holdsKey (u.shadow.list e) k = true) :
    DomainChange s (u.setDomState e (.restoring k false)) d c := by
  refine .single d c (fun d => ?_) (fun d => ?_) (.restores he (by simpa using hk) hclear)
  · rw [State.setDomState, setDom_dom_of, dom_eq hd, dom_eq hd]
  · rw [(u.setDomState_frame e _).2.2.2.2.2.2.2.2.1]
    exact notes_eq hn d

include hn he hclear in
theorem enterRestoring : DomainChange s (u.enterRestoring e) d c := by
  unfold State.enterRestoring
  split
  next x rest hl =>
    refine .setRestoring d c hd hn he hclear ?_
    rw [hl]
    exact (holdsKey_iff _ _).2 ⟨x, List.mem_cons_self, rfl⟩
  next => exact .reachOn d c hd hn he hclear

include hn he in
theorem advanceReplay (k : Key) (hclear : u.sport.notes.get e = none) : DomainChange s (u.advanceReplay e k) d c := by
  unfold State.advanceReplay
  split
  next next hf =>
    exact .setRestoring d c hd hn he (.inl hclear) (holdsKey_of_follower hf)
  next => exact .reachOn d c hd hn he (.inl hclear)

/-- A drain that may complete (R83). -/
theorem drainDomain (hu : u.sport = s.sport) (d? : Option DomainId) : DomainChange s (u.drainDomain d?) d c := by
  have hnotes : (u.drainDomain d?).sport.notes.get d = s.sport.notes.get d := by simp [hu]
  cases d? with
  | none => exact .kept d c (dom_eq hd d) hnotes
  | some e =>
    rw [State.drainDomain] at hnotes ⊢
    by_cases hdrain : (u.dom e).state = .draining ∧ NoWork u e
    · rw [drainCheck_done u e hdrain.1 hdrain.2, dom_eq hd]
      exact .setDom d c (by simp [hu]) (by simpa using hd)
        (.powersDown (.inr (dom_eq hd e ▸ hdrain.1)) hdrain.2 |> .moved)
    · rw [drainCheck_not u e hdrain]
      exact .same d c hd (by rw [hu])

end One

theorem setNote {e : DomainId} {w : MaintenanceWork} (n : Nat) (he : (s.dom e).state.asked w) :
    DomainChange s (s.setNote e w n) d c := by
  refine .single d c (fun d => ?_) (fun d => ?_) (.retried (note := { work := w, attempt := n }) he)
  · rw [State.dom_setNote]
    split
    next hde => rw [hde]
    next => rfl
  · exact get_set_eq _ _ _ _

theorem clearNote_notes (s : State) (d : DomainId) :
    (s.clearNote d).sport.notes.get d = none
      ∧ ∀ e, e ≠ d → (s.clearNote d).sport.notes.get e = s.sport.notes.get e := by
  simp +contextual [State.clearNote, get_set_eq]

theorem delivered {x : Exchange} {o : AttemptOutcome} (h : Delivered s x o t) : DomainChange s t d c := by
  have hchecking : ∀ {e target}, (s.dom e).state = .checking target true → (s.dom e).state.inAttempt = true :=
    fun hs => by rw [hs]; rfl
  have hrestoring : ∀ {e k}, (s.dom e).state = .restoring k true → (s.dom e).state.inAttempt = true :=
    fun hs => by rw [hs]; rfl
  cases h with
  | ignored => exact .same d c rfl rfl
  | entry => exact .drainDomain d c (by simp) (by simp) _
  | orphan => exact .drainDomain d c (by simp) (by simp) _
  | probeRetried n _ hs => exact .setNote d c n ⟨_, hs⟩
  | @probePassed e _ _ hs =>
    obtain ⟨hclear, hothers⟩ := clearNote_notes s e
    exact .enterRestoring d c (by simp) hothers (hchecking hs) (.inl hclear)
  | probeFailed _ hs =>
    exact (attemptFails d c (u := s) rfl (fun _ _ => rfl) (hchecking hs) .checkFailed).congr ⟨rfl, rfl, rfl⟩
      ⟨by simp, by simp, by simp⟩
  | writeRetried n _ hs => exact .setNote d c n hs
  | @writeDone e _ k cs _ hs =>
    obtain ⟨hclear, hothers⟩ := clearNote_notes s e
    exact .advanceReplay d c (by simp) (by simpa using hothers) (hrestoring hs) k (by simpa using hclear)
  | @writeFailed e _ _ _ hs =>
    exact (attemptFails d c (u := s.clearNote e) (by simp) (clearNote_notes s e).2 (hrestoring hs) .restoreFailed).congr
      ⟨rfl, rfl, rfl⟩ ⟨by simp, by simp, by simp⟩

theorem received (h : Received s t) : DomainChange s t d c := by
  cases h with
  | receiverOnly => exact .same d c rfl rfl
  | discarded => exact .same d c (by simp) (by simp)
  | delivered =>
    obtain ⟨cause, ha⟩ | ⟨-, -, u, snap, made, hu, ha⟩ := State.admission_cases
      (s.withUport { s.uport.toState .hunt with counters := s.uport.counters.addFrame })
      (s.uport.asm.header.getD 0 0) (headerCommand s.uport.asm.header s.uport.asm.payload) <;> rw [ha]
    · exact .same d c (by simp) (by simp)
    · have hsport : u.sport = s.sport := hu.kept.2.2.2.2.2.2.2.1
      exact .of (State.dom_enterTable _ _ _ _ _ d) (by simp [hsport]) (.moved (hu.moves d))

/-- A power-good falling, on each domain assigned to the input by its own state (R95). -/
theorem powerGoodFalling (s : State) (i : Fin 4) : DomainChange s (s.powerGoodFalling i) d c := by
  obtain ⟨notes, hn, hnote⟩ := s.powerGoodFalling_notes i
  have hdom := s.dom_powerGoodFalling i d
  replace hnote := fun d => (congrArg (·.notes.get d) hn).trans (hnote d)
  by_cases hi : (s.dom d).config.pgInput = some i
  · rw [if_pos hi] at hdom
    obtain ⟨hs, hf, hx⟩ | ⟨hs, hf, hx⟩ | ⟨hf, hx⟩ := (s.dom d).powerLost_cases
    · exact .of (hdom.trans hx) (by rw [hnote, if_pos ⟨hi, hf⟩]) (.powerLost hs)
    · exact .of (hdom.trans hx) (by rw [hnote, if_pos ⟨hi, hf⟩]) (.failed _ hs)
    · exact .kept d c (hdom.trans hx) (by rw [hnote, if_neg (by simp [hf])])
  · rw [if_neg hi] at hdom
    exact .kept d c hdom (by rw [hnote, if_neg fun h => hi h.1])

theorem grantMaintenance {e : DomainId} (m : Maintenance) (he : (s.dom e).state.inAttempt = true) :
    DomainChange s (s.grantMaintenance e m) d .grant := by
  refine .single d _ (fun d => ?_) (fun d => ?_) (.granted he)
  · rw [State.dom_grantMaintenance, State.setDomState, setDom_dom_of]
  · rw [← get_set_eq]
    simp [State.grantMaintenance, State.beginAttempt, State.clearNote]

/-- A break completes the drains it empties and touches no note (R34). -/
theorem takeBreak (s : State) : DomainChange s s.takeBreak d c := by
  have hnotes : s.takeBreak.sport.notes = s.sport.notes := by
    rw [(s.takeBreak_frame).2.2.2.2.2.2.2.1, SPort.orphan_notes]
  let u := (((s.withUport s.uport.takeBreak).raise .linkError).withEntries []).withReplyQueue []
    |>.withSport s.sport.orphan
  obtain ⟨hdrains, hstays⟩ := u.dom_drainAll d
  by_cases hd : (u.dom d).state = .draining ∧ NoWork u d
  · exact .of (hdrains hd) (by rw [hnotes]) (.moved (.powersDown (.inr hd.1) hd.2))
  · exact .kept d c (hstays hd) (by rw [hnotes])

end DomainChange

/-- Every effect does one of these to each domain and its note. -/
theorem Effect.domain {s t : State} {c : Instr} (h : Effect s c t) (d : DomainId) : DomainChange s t d c := by
  have hsettling : ∀ {e n}, (s.dom e).state = .settling n → (s.dom e).state.inAttempt = true :=
    fun hs => by rw [hs]; rfl
  cases h with
  | nothing => exact .same d c rfl rfl
  | character data mark =>
    exact (DomainChange.received d _ (State.received_receive (s.onLine (.afterCharacter mark)) data mark)).congr
      ⟨rfl, rfl, rfl⟩
      ⟨rfl, rfl, rfl⟩
  | upstreamBreak => exact .takeBreak d _ s
  | answered _ hb => exact (DomainChange.body d hb).congr ⟨rfl, rfl, rfl⟩ ⟨by simp, by simp, by simp⟩
  | domainMoved hm => exact .domainMoved d c hm
  | settleFails hs =>
    exact (DomainChange.attemptFails d _ (u := s) rfl (fun _ _ => rfl) (hsettling hs) .pgLow).congr
      ⟨rfl, rfl, rfl⟩ ⟨by simp, by simp, by simp⟩
  | settleRestores hs => exact .enterRestoring d _ rfl (fun _ _ => rfl) (hsettling hs) (.inr ⟨⟨_, hs⟩, rfl⟩)
  | pgFalls i p =>
    exact (DomainChange.powerGoodFalling d _ (s.withPg p) i).congr ⟨rfl, rfl, rfl⟩ ⟨by simp, by simp, by simp⟩
  | edgeSelected i f =>
    exact .of (State.dom_selectedEdge _ i d) (by simp) (.moved (noWork := True) (Domain.moves_edgeActed _ _ _ _))
  | grantedMaintenance _ hm => exact .grantMaintenance d _ (maintenanceCandidate_due hm).inAttempt
  | @ended c p x y o line _ _ =>
    exact (DomainChange.delivered d c ((s.freed line o).delivered_deliver y o)).congr ⟨rfl, rfl, rfl⟩ ⟨rfl, rfl, rfl⟩
  | granted => exact .same d _ (by simp) rfl
  | _ => exact .same d _ (by simp) (by simp)

/-! ## Replay positions and retry notes -/

/-- The law of one domain's work: a replay position is in the list, and a note is for work the state has asked for
(R113, R138). -/
def WorkOk (x : DomState) (l : List ShadowEntry) (note : Option RetryNote) : Prop :=
  (∀ k granted, x = .restoring k granted → holdsKey l k = true) ∧ ∀ n, note = some n → x.asked n.work

theorem replayOk_notesOk_iff (s : State) :
    ReplayOk s ∧ NotesOk s ↔ ∀ d, WorkOk (s.dom d).state (s.shadow.list d) (s.sport.notes.get d) :=
  ⟨fun h d => ⟨h.1 d, h.2 d⟩, fun h => ⟨fun d => (h d).1, fun d => (h d).2⟩⟩

section Work
variable {x y : DomState} {l : List ShadowEntry} {note : Option RetryNote}

theorem workOk_none (h : x.isRestoring = false) : WorkOk x l none :=
  ⟨fun k g hx => (by rw [hx] at h; cases h), fun _ hn => (by cases hn)⟩

/-- The states that have work on the segment, CHECKING and RESTORING, are the ones that can have asked for it. -/
theorem DomState.asked_inAttempt {w : MaintenanceWork} (h : x.asked w) :
    x.inAttempt = true ∧ ∀ n, x ≠ .settling n := by
  cases w with
  | probe => obtain ⟨_, rfl⟩ := h; exact ⟨rfl, by simp⟩
  | replay => obtain rfl := h; exact ⟨rfl, by simp⟩

theorem WorkOk.note_eq_none (h : WorkOk x l note) (hx : x.inAttempt = false ∨ ∃ n, x = .settling n) : note = none := by
  cases note with
  | none => rfl
  | some n =>
    obtain ⟨ha, hs⟩ := DomState.asked_inAttempt (h.2 n rfl)
    obtain hx | ⟨m, hx⟩ := hx
    · rw [hx] at ha; cases ha
    · exact absurd hx (hs m)

/-- A domain leaves a state with no work for one that is not RESTORING. -/
theorem WorkOk.leaves (h : WorkOk x l note) (hx : x.inAttempt = false ∨ ∃ n, x = .settling n)
    (hy : y.isRestoring = false) : WorkOk y l note := by
  rw [h.note_eq_none hx]
  exact workOk_none hy

end Work

theorem Domain.cooled_not_restoring (x : Domain) : x.cooled.state.isRestoring = false := by
  unfold Domain.cooled
  split
  · rfl
  · split <;> rfl

theorem Domain.failedAttempt_not_restoring (x : Domain) (cause : FaultCause) :
    (x.failedAttempt cause).state.isRestoring = false := by
  unfold Domain.failedAttempt
  split
  · exact Domain.cooled_not_restoring _
  · rfl

theorem DomState.not_inAttempt_of_takesActivity {x : DomState} (h : x.takesActivity = true) : x.inAttempt = false := by
  cases x <;> simp_all [DomState.takesActivity, DomState.inAttempt]

theorem WorkOk.moves {noWork : Prop} {x y : Domain} {l : List ShadowEntry} {note : Option RetryNote}
    (h : WorkOk x.state l note) (hm : Domain.Moves noWork x y) : WorkOk y.state l note := by
  cases hm with
  | stays | willWake => exact h
  | active =>
    cases ha : x.state.takesActivity with
    | false => rwa [Domain.active_of_not_takesActivity ha]
    | true =>
      refine h.leaves (.inl (DomState.not_inAttempt_of_takesActivity ha)) ?_
      rw [Domain.active, if_pos ha]
      rfl
  | woken hs | idleStops hs | warned hs | restarts hs | turnsOff hs => exact h.leaves (.inl (by rw [hs]; rfl)) rfl
  | probes hs => exact h.leaves (.inr ⟨_, hs⟩) rfl
  | drains hs => exact h.leaves (.inl (DomState.not_inAttempt_of_takesActivity hs)) rfl
  | powersDown hs =>
    refine h.leaves (.inl ?_) x.cooled_not_restoring
    obtain hs | hs := hs
    · exact DomState.not_inAttempt_of_takesActivity hs
    · rw [hs]; rfl

theorem WorkOk.step {mgmt : Byte} {l : List ShadowEntry} {x y : Domain} {old note : Option RetryNote} {c : Instr}
    (h : WorkOk x.state l old) (hs : DomainStep mgmt l x old c y note) : WorkOk y.state l note := by
  cases hs with
  | moved hm => exact h.moves hm
  | granted =>
    refine ⟨fun k g hx => ?_, fun _ hn => (by cases hn)⟩
    cases hs : x.state <;> simp only [hs, DomState.markGranted, reduceCtorEq, DomState.restoring.injEq] at hx
    next p b => exact hx.1 ▸ h.1 p b hs
  | retried ha => exact ⟨h.1, fun n hn => by cases hn; exact ha⟩
  | failed => exact workOk_none (Domain.failedAttempt_not_restoring _ _)
  | powerLost | reset => exact workOk_none rfl
  | @restores _ k _ _ hk hn =>
    have hnone : note = none := by
      obtain hn | ⟨hs, hn⟩ := hn
      · exact hn
      · exact hn.trans (h.note_eq_none (.inr hs))
    subst hnone
    exact ⟨fun k' g hx => (by cases hx; exact hk), fun _ hn => (by cases hn)⟩
  | reachesOn _ hn =>
    obtain rfl | ⟨hs, rfl⟩ := hn
    · exact workOk_none rfl
    · exact h.leaves (.inr hs) rfl
  | configured =>
    unfold Domain.configure
    dsimp only
    split
    next hw =>
      refine h.leaves (.inl ?_) rfl
      cases hs : x.state <;> simp_all [DomState.isWarning, DomState.inAttempt]
    next => exact h
  | faultCleared hs => exact h.leaves (.inl (by rw [hs]; rfl)) rfl
  | countsCleared => exact h

/-- What a domain's work rests on: its list stands while it is in RESTORING (R113). -/
theorem WorkOk.list {x : DomState} {l l' : List ShadowEntry} {note : Option RetryNote} (h : WorkOk x l note)
    (hl : x.isRestoring = true → l' = l) : WorkOk x l' note :=
  ⟨fun k g hx => by rw [hl (by rw [hx]; rfl)]; exact h.1 k g hx, h.2⟩

theorem workOk_effect {s t : State} {c : Instr}
    (h : ∀ d, WorkOk (s.dom d).state (s.shadow.list d) (s.sport.notes.get d)) (he : Effect s c t) (d : DomainId) :
    WorkOk (t.dom d).state (t.shadow.list d) (t.sport.notes.get d) :=
  ((h d).list fun hr => he.shadow.list_of_restoring hr).step (he.domain d)

theorem DomState.tick_eq_restoring (x : DomState) (k : Key) (granted : Bool) :
    x.tick = .restoring k granted ↔ x = .restoring k granted := by
  cases x <;> simp [DomState.tick]

theorem DomState.asked_tick (x : DomState) (w : MaintenanceWork) : x.tick.asked w ↔ x.asked w := by
  cases w <;> cases x <;> simp [DomState.asked, DomState.tick]

theorem WorkOk.tick {x : DomState} {l : List ShadowEntry} {note : Option RetryNote} (h : WorkOk x l note) :
    WorkOk x.tick l note := by
  simpa only [WorkOk, DomState.tick_eq_restoring, DomState.asked_tick] using h

/-- Settles O58, by what an event makes of each domain, its list and its note. -/
theorem stepKeepsReplayAndNoteLaw : Obligations.StepKeepsReplayAndNoteLaw := fun s t hreplay hnotes hstep =>
  (replayOk_notesOk_iff t).2 <|
    step_keeps (P := fun s => ∀ d, WorkOk (s.dom d).state (s.shadow.list d) (s.sport.notes.get d))
      (fun pins waiting => (replayOk_notesOk_iff _).1 ⟨replayOk_powerOn pins waiting, notesOk_powerOn pins waiting⟩)
      (fun _ _ h => h) (fun _ h d => by simpa using (h d).tick) (fun s t h d => by simpa using h d)
      (fun _ _ _ h he => workOk_effect h he) ((replayOk_notesOk_iff s).1 ⟨hreplay, hnotes⟩) hstep

end Sys2Proof.Machine
end

section
/-! PROOFS. What an event makes of the settings, and the law that keeps every setting in its range. -/
namespace Sys2Proof.Machine

/-! ## The settings, and what an event makes of them -/

/-- The formats and the byte settings of both ports, and the park limit (R2, R9, R48, R127). -/
structure Settings where
  upstream : Format
  upstreamInUse : Format
  pending : Option PendingFormat
  segment : Format
  segmentInUse : Format
  answerTimeout : Byte
  retryCount : Byte
  defaultGap : Byte
  parkLimit : Byte

def State.settings (s : State) : Settings where
  upstream := s.uport.setting
  upstreamInUse := s.uport.inUse
  pending := s.uport.pendingFormat
  segment := s.sport.setting
  segmentInUse := s.sport.inUse
  answerTimeout := s.sport.answerTimeout
  retryCount := s.sport.retryCount
  defaultGap := s.sport.defaultGap
  parkLimit := s.parkLimit

/-- What one event can make of the settings, the power-on reset apart. -/
inductive SettingsStep (x : Settings) : Instr → Settings → Prop
  | same (c : Instr) : SettingsStep x c x
  | written {c : Instr} {u p : Format} {pending : Option PendingFormat} {timeout retry gap park : Byte}
      (hc : c = .mgmtWrite ∨ c = .uportFormatWrite ∨ c = .sportFormatWrite)
      (hu : KeptOr x.upstream u (·.ok = true)) (hp : KeptOr x.segment p (·.ok = true))
      (hpending : pending = x.pending ∨ ∃ n, pending = some { format := u, tag := n })
      (htimeout : KeptOr x.answerTimeout timeout (4 ≤ ·.toNat)) (hretry : KeptOr x.retryCount retry (·.toNat ≤ 3))
      (hgap : KeptOr x.defaultGap gap fun b => 1 ≤ b.toNat ∧ b.toNat ≤ 16)
      (hpark : KeptOr x.parkLimit park (1 ≤ ·.toNat)) :
      SettingsStep x c
        { x with
          upstream := u, pending := pending, segment := p, answerTimeout := timeout, retryCount := retry,
          defaultGap := gap, parkLimit := park }
  | takenUp (c : Instr) {p : PendingFormat} (h : x.pending = some p) :
      SettingsStep x c { x with upstreamInUse := p.format, pending := none }
  | granted : SettingsStep x .grant { x with segmentInUse := x.segment }

theorem SettingsStep.of_eq {x y : Settings} (c : Instr) (h : y = x) : SettingsStep x c y := h ▸ .same c

/-- The settings stand where both ports keep theirs. -/
theorem State.settings_congr {s t : State}
    (hu : t.uport.setting = s.uport.setting ∧ t.uport.inUse = s.uport.inUse
      ∧ t.uport.pendingFormat = s.uport.pendingFormat)
    (hs : t.sport.setting = s.sport.setting ∧ t.sport.inUse = s.sport.inUse
      ∧ t.sport.answerTimeout = s.sport.answerTimeout ∧ t.sport.retryCount = s.sport.retryCount
      ∧ t.sport.defaultGap = s.sport.defaultGap)
    (hp : t.parkLimit = s.parkLimit) : t.settings = s.settings := by
  obtain ⟨hu1, hu2, hu3⟩ := hu
  obtain ⟨hs1, hs2, hs3, hs4, hs5⟩ := hs
  simp only [State.settings, hu1, hu2, hu3, hs1, hs2, hs3, hs4, hs5, hp]

theorem State.settings_same {s t : State} (hu : t.uport = s.uport) (hs : t.sport = s.sport)
    (hp : t.parkLimit = s.parkLimit) : t.settings = s.settings :=
  State.settings_congr (by simp [hu]) (by simp [hs]) hp

@[simp] theorem State.settings_transmitterChoice (s : State) : s.transmitterChoice.settings = s.settings := by
  refine State.settings_congr ?_ (by simp) (by simp)
  unfold State.transmitterChoice State.send
  repeat' split
  all_goals exact ⟨rfl, rfl, rfl⟩

theorem State.settings_refuseFrame (s : State) (tag : Byte) (cause : RefusalCause) :
    (s.refuseFrame tag cause).settings = s.settings := by
  refine State.settings_congr ?_ (by simp) (by simp)
  unfold State.refuseFrame
  split <;> exact ⟨rfl, rfl, rfl⟩

theorem State.settings_admission (s : State) (tag : Byte) (c : Command) :
    (s.admission tag c).settings = s.settings := by
  obtain ⟨cause, ha⟩ | ⟨-, -, u, snap, made, hu, ha⟩ := s.admission_cases tag c <;> rw [ha]
  · exact s.settings_refuseFrame tag cause
  · exact State.settings_same (by simp [hu.kept]) (by simp [hu.kept]) (by simp [hu.kept])

theorem Received.settings {s t : State} (h : Received s t) : t.settings = s.settings := by
  cases h with
  | receiverOnly | discarded => rfl
  | delivered => rw [State.settings_admission]; rfl

theorem Delivered.settings {s t : State} {x : Exchange} {o : AttemptOutcome} (h : Delivered s x o t) :
    t.settings = s.settings := by
  refine State.settings_congr ?_ ?_ ?_ <;> cases h <;> simp [State.attemptFails_sport, State.setNote, State.clearNote]

/-- A pending format is taken up, or the settings stand (R9). -/
theorem UPort.takeUpAfter_cases (u : UPort) (tag : Byte) :
    (∃ p, u.pendingFormat = some p ∧ u.takeUpAfter tag = { u with inUse := p.format, pendingFormat := none })
      ∨ u.takeUpAfter tag = u := by
  unfold UPort.takeUpAfter
  split
  next p hp => split <;> [exact .inl ⟨p, hp, rfl⟩; exact .inr rfl]
  next => exact .inr rfl

theorem UPort.takeUpAtBreak_cases (u : UPort) :
    (∃ p, u.pendingFormat = some p ∧ u.takeUpAtBreak = { u with inUse := p.format, pendingFormat := none })
      ∨ u.takeUpAtBreak = u := by
  unfold UPort.takeUpAtBreak
  split
  next p hp => exact .inl ⟨p, hp, rfl⟩
  next => exact .inr rfl

theorem SPort.orphan_settings (p : SPort) :
    p.orphan.setting = p.setting ∧ p.orphan.inUse = p.inUse ∧ p.orphan.answerTimeout = p.answerTimeout
      ∧ p.orphan.retryCount = p.retryCount ∧ p.orphan.defaultGap = p.defaultGap := by
  unfold SPort.orphan
  split
  · split <;> simp
  · simp

theorem settingsStep_takeBreak (s : State) : SettingsStep s.settings .upstreamBreak s.takeBreak.settings := by
  obtain ⟨ho1, ho2, ho3, ho4, ho5⟩ := s.sport.orphan_settings
  have hbreak : s.takeBreak.settings =
      { s.settings with
        upstreamInUse := (s.uport.toState .hunt).takeUpAtBreak.inUse
        pending := (s.uport.toState .hunt).takeUpAtBreak.pendingFormat } := by
    have hset : (s.uport.toState .hunt).takeUpAtBreak.setting = s.uport.setting := by
      obtain ⟨p, -, h⟩ | h := (s.uport.toState .hunt).takeUpAtBreak_cases <;> rw [h] <;> rfl
    simp only [State.settings, State.takeBreak_uport, UPort.takeBreak, State.takeBreak_frame, hset, ho1, ho2, ho3, ho4,
      ho5]
  rw [hbreak]
  obtain ⟨p, hp, h⟩ | h := (s.uport.toState .hunt).takeUpAtBreak_cases <;> rw [h]
  · exact .takenUp _ hp
  · exact .same _

theorem settingsStep_replyGone (s : State) (tag : Byte) :
    SettingsStep s.settings .replySent (s.replyGone tag).settings := by
  rw [State.replyGone, State.settings_transmitterChoice]
  obtain ⟨p, hp, h⟩ | h := UPort.takeUpAfter_cases
    { s.uport with tx := none, counters := s.uport.counters.addReply } tag <;> rw [h]
  · exact .takenUp _ hp
  · exact .same _

theorem Body.settingsStep {s t : State} {tag : Byte} {c : Instr} (h : Body s tag c t) :
    SettingsStep s.settings c t.settings := by
  cases h with
  | settings hc hu hp hpending htimeout hretry hgap hpark =>
    exact .written hc hu hp hpending htimeout hretry hgap hpark
  | domainMoved hm =>
    obtain ⟨d, cs, y, -, rfl⟩ := hm
    exact .of_eq c (State.settings_same (by simp) (by simp) (by simp))
  | segmentReset => exact .of_eq _ (State.settings_congr (by simp) (by simp [State.segmentReset_sport]) (by simp))
  | _ => exact .same _

theorem Effect.settingsStep {s t : State} {c : Instr} (h : Effect s c t) : SettingsStep s.settings c t.settings := by
  cases h with
  | character data mark =>
    exact .of_eq _ (State.received_receive (s.onLine (.afterCharacter mark)) data mark).settings
  | upstreamBreak => exact settingsStep_takeBreak s
  | choice | refusalSent | noticeSent => rw [State.settings_transmitterChoice]; exact .same _
  | replySent tag => exact settingsStep_replyGone s tag
  | answered _ hb => exact hb.settingsStep
  | domainMoved hm =>
    obtain ⟨d, cs, y, -, rfl⟩ := hm
    exact .of_eq c (State.settings_same (by simp) (by simp) (by simp))
  | settleFails | settleRestores =>
    exact .of_eq _ (State.settings_congr (by simp) (by simp [State.attemptFails_sport]) (by simp))
  | pgFalls i p =>
    obtain ⟨notes, hn, -⟩ := (s.withPg p).powerGoodFalling_notes i
    exact .of_eq _ (State.settings_congr (by simp) (by simp [hn]) (by simp))
  | edgeSelected => exact .of_eq _ (State.settings_same (by simp) (by simp) (by simp))
  | granted | grantedMaintenance => exact .granted
  | @ended c p x y o line _ _ => exact .of_eq c ((s.freed line o).delivered_deliver y o).settings
  | _ => exact .same _

/-! ## Straps -/

theorem Effect.straps {s t : State} {c : Instr} (h : Effect s c t) : t.straps = s.straps := by
  cases h with
  | answered _ hb =>
    cases hb with
    | domainMoved hm =>
      obtain ⟨d, cs, y, -, rfl⟩ := hm
      simp
    | _ => simp
  | domainMoved hm =>
    obtain ⟨d, cs, y, -, rfl⟩ := hm
    simp
  | _ => simp

/-! ## Every setting in its range -/

/-- The ranges of the settings (R2, R48, R127). -/
def Settings.Ok (x : Settings) : Prop :=
  x.upstream.ok = true ∧ x.upstreamInUse.ok = true ∧ (∀ p, x.pending = some p → p.format.ok = true)
    ∧ x.segment.ok = true ∧ x.segmentInUse.ok = true ∧ 4 ≤ x.answerTimeout.toNat ∧ x.retryCount.toNat ≤ 3
    ∧ 1 ≤ x.defaultGap.toNat ∧ x.defaultGap.toNat ≤ 16 ∧ 1 ≤ x.parkLimit.toNat

/-- A domain's configuration in its ranges, and its attempt number as its state allows (R75, R77). -/
def DomainOk (mgmt : Byte) (x : Domain) : Prop := ConfigOk mgmt x.config ∧ AttemptOk x

theorem settingsOk_iff (s : State) : SettingsOk s ↔ s.settings.Ok ∧ ∀ d, DomainOk s.mgmtAddress (s.dom d) := by
  simp only [SettingsOk, Settings.Ok, State.settings, DomainOk, and_assoc]

theorem KeptOr.ok {α : Type} {old new : α} {ok : α → Prop} (h : KeptOr old new ok) (hold : ok old) : ok new := by
  obtain rfl | h := h
  · exact hold
  · exact h

theorem Settings.Ok.step {x y : Settings} {c : Instr} (h : x.Ok) (hs : SettingsStep x c y) : y.Ok := by
  obtain ⟨hu, hui, hpending, hp, hpi, htimeout, hretry, hgap1, hgap16, hpark⟩ := h
  cases hs with
  | same => exact ⟨hu, hui, hpending, hp, hpi, htimeout, hretry, hgap1, hgap16, hpark⟩
  | written _ hu' hp' hpending' htimeout' hretry' hgap' hpark' =>
    have hu2 := hu'.ok hu
    obtain ⟨hg1, hg16⟩ := hgap'.ok ⟨hgap1, hgap16⟩
    refine ⟨hu2, hui, fun p hp => ?_, hp'.ok hp, hpi, htimeout'.ok htimeout, hretry'.ok hretry, hg1, hg16,
      hpark'.ok hpark⟩
    obtain rfl | ⟨n, rfl⟩ := hpending'
    · exact hpending p hp
    · cases hp; exact hu2
  | takenUp _ hp' =>
    exact ⟨hu, hpending _ hp', fun p hp => (by cases hp), hp, hpi, htimeout, hretry, hgap1, hgap16, hpark⟩
  | granted => exact ⟨hu, hui, hpending, hp, hp, htimeout, hretry, hgap1, hgap16, hpark⟩

section Attempts
variable {x y : Domain}

theorem attemptOk_idle (h : x.state.takesActivity = true ∨ x.state = .draining) : AttemptOk x ↔ x.attempt = 0 := by
  unfold AttemptOk
  cases hs : x.state <;> simp_all [DomState.takesActivity]

theorem attemptOk_inService (h : x.state.inService = true) : AttemptOk x ↔ x.attempt = 0 := by
  unfold AttemptOk
  cases hs : x.state <;> simp_all [DomState.inService]

theorem attemptOk_inAttempt (h : x.state.inAttempt = true) : AttemptOk x ↔ 1 ≤ x.attempt ∧ x.attempt ≤ 4 := by
  unfold AttemptOk
  cases hs : x.state <;> simp_all [DomState.inAttempt]

/-- A domain that powers down: its attempt number goes on only with pending wake set (R84, R91). -/
theorem attemptOk_cooled (h : x.attempt ≤ 3) (hp : x.pendingWake = false → x.attempt = 0) : AttemptOk x.cooled := by
  unfold Domain.cooled
  split
  · exact ⟨h, hp⟩
  · split
    · exact ⟨Nat.le_add_left 1 _, Nat.add_le_add_right h 1⟩
    next hn => exact hp (by simpa using hn)

theorem attemptOk_failedAttempt (cause : FaultCause) (hlimit : x.config.wakeLimit.toNat ≤ 4) (h : x.attempt ≤ 4) :
    AttemptOk (x.failedAttempt cause) := by
  unfold Domain.failedAttempt
  split
  next hl => exact attemptOk_cooled (by dsimp only; omega) fun hp => (by cases hp)
  next => exact h

theorem AttemptOk.moves {noWork : Prop} (h : AttemptOk x) (hm : Domain.Moves noWork x y) : AttemptOk y := by
  cases hm with
  | stays => exact h
  | active =>
    cases ha : x.state.takesActivity with
    | false => rwa [Domain.active_of_not_takesActivity ha]
    | true =>
      rw [attemptOk_idle (.inl ha)] at h
      rw [Domain.active, if_pos ha]
      exact h
  | woken => exact ⟨Nat.le_refl 1, Nat.le_add_left 1 3⟩
  | willWake hs =>
    obtain hs | ⟨n, hs⟩ := hs <;> simp_all [AttemptOk, Domain.willWake]
  | idleStops hs | warned hs => simpa [AttemptOk, hs] using h
  | drains hs => exact (attemptOk_idle (.inl hs)).1 h
  | powersDown hs =>
    have h0 := (attemptOk_idle hs).1 h
    exact attemptOk_cooled (by omega) fun _ => h0
  | restarts hs =>
    have h3 : x.attempt ≤ 3 := by simp only [AttemptOk, hs] at h; exact h.1
    exact ⟨Nat.le_add_left 1 _, Nat.add_le_add_right h3 1⟩
  | turnsOff hs hp => simp only [AttemptOk, hs] at h; exact h.2 hp
  | probes hs => simpa [AttemptOk, hs] using h

theorem Domain.Moves.config {noWork : Prop} (hm : Domain.Moves noWork x y) : y.config = x.config := by
  cases hm with
  | active => unfold Domain.active; split <;> rfl
  | powersDown =>
    unfold Domain.cooled
    split
    · rfl
    · split <;> rfl
  | _ => rfl

end Attempts

theorem Domain.failedAttempt_config (x : Domain) (cause : FaultCause) : (x.failedAttempt cause).config = x.config := by
  unfold Domain.failedAttempt Domain.cooled
  repeat' split
  all_goals rfl

theorem DomainOk.step {mgmt : Byte} {l : List ShadowEntry} {x y : Domain} {old note : Option RetryNote} {c : Instr}
    (h : DomainOk mgmt x) (hs : DomainStep mgmt l x old c y note) : DomainOk mgmt y := by
  obtain ⟨hconfig, hattempt⟩ := h
  cases hs with
  | moved hm => exact ⟨hm.config ▸ hconfig, hattempt.moves hm⟩
  | granted hs =>
    refine ⟨hconfig, ?_⟩
    rw [attemptOk_inAttempt hs] at hattempt
    exact (attemptOk_inAttempt (x := { x with state := x.state.markGranted })
      (DomState.inAttempt_markGranted hs)).2 hattempt
  | retried | countsCleared => exact ⟨hconfig, hattempt⟩
  | failed cause hs =>
    exact ⟨x.failedAttempt_config cause ▸ hconfig,
      attemptOk_failedAttempt cause hconfig.2.2.1 ((attemptOk_inAttempt hs).1 hattempt).2⟩
  | powerLost hs =>
    refine ⟨hconfig, ?_⟩
    have h0 := (attemptOk_inService hs).1 hattempt
    exact h0.trans_le (by decide)
  | restores hs => exact ⟨hconfig, (attemptOk_inAttempt hs).1 hattempt⟩
  | reachesOn => exact ⟨hconfig, rfl⟩
  | configured hc =>
    refine ⟨hc.ok hconfig, ?_⟩
    unfold Domain.configure
    split
    next hw =>
      have hidle : x.state.takesActivity = true := by
        cases hs : x.state <;> simp_all [DomState.isWarning, DomState.takesActivity]
      exact (attemptOk_idle (.inl hidle)).1 hattempt
    next => exact hattempt
  | faultCleared | reset => exact ⟨hconfig, rfl⟩

theorem SettingsOk.effect {s t : State} {c : Instr} (h : SettingsOk s) (he : Effect s c t) : SettingsOk t := by
  rw [settingsOk_iff] at h ⊢
  have hmgmt : t.mgmtAddress = s.mgmtAddress := by rw [State.mgmtAddress, he.straps]; rfl
  exact ⟨h.1.step he.settingsStep, fun d => hmgmt ▸ (h.2 d).step (he.domain d)⟩

theorem AttemptOk.tick {x : Domain} (h : AttemptOk x) : AttemptOk { x with state := x.state.tick } := by
  unfold AttemptOk at h ⊢
  cases hs : x.state <;> simpa [DomState.tick, hs] using h

theorem SettingsOk.tick {s : State} (h : SettingsOk s) : SettingsOk s.tick := by
  rw [settingsOk_iff] at h ⊢
  refine ⟨h.1, fun d => ?_⟩
  rw [State.dom_tick]
  exact ⟨(h.2 d).1, (h.2 d).2.tick⟩

theorem SettingsOk.same {s t : State} (h : SettingsOk s) (hs : t.settings = s.settings) (hd : t.domains = s.domains)
    (hm : t.straps = s.straps) : SettingsOk t := by
  rw [settingsOk_iff] at h ⊢
  simpa only [hs, State.dom, hd, State.mgmtAddress, hm] using h

theorem State.settings_announce (s t : State) : (announce s t).settings = t.settings := by
  refine State.settings_congr ?_ (by simp) (by simp)
  rw [announce_uport]
  exact ⟨rfl, rfl, rfl⟩

/-- Settles O59, setting by setting and domain by domain. -/
theorem stepKeepsSettingsLaw : Obligations.StepKeepsSettingsLaw := fun _ _ =>
  step_keeps (P := SettingsOk) settingsOk_powerOn (fun _ _ h => h.same rfl rfl rfl) (fun _ h => h.tick)
    (fun s t h => h.same (s.settings_announce t) (by simp) (by simp)) (fun _ _ _ h he => h.effect he)

end Sys2Proof.Machine
end

section
/-! PROOFS. What an event makes of the request table as a list: entries go on, one is added, one leaves, or all are
discarded. -/
namespace Sys2Proof.Machine

/-! ## Entries that go on -/

/-- What an entry keeps: its tag, its command and its snapshot. -/
def Entry.request (e : Entry) : Byte × Command × Option Snapshot := (e.tag, e.cmd, e.snapshot)

/-- Every entry goes on in its place with its request; with one entry to a tag, a DONE one stays as it is (R43). -/
structure GoesOn (l l' : List Entry) : Prop where
  requests : l'.map Entry.request = l.map Entry.request
  final : (l.map (·.tag)).Nodup → ∀ e ∈ l, e.state.isDone = true → e ∈ l'

namespace GoesOn
variable {l l' : List Entry}

theorem refl (l : List Entry) : GoesOn l l := ⟨rfl, fun _ _ he _ => he⟩

theorem of_eq (h : l' = l) : GoesOn l l' := h ▸ refl l

theorem tags (h : GoesOn l l') : l'.map (·.tag) = l.map (·.tag) := by
  have := congrArg (List.map Prod.fst) h.requests
  rwa [List.map_map, List.map_map] at this

theorem trans {l'' : List Entry} (h : GoesOn l l') (h' : GoesOn l' l'') : GoesOn l l'' :=
  ⟨h'.requests.trans h.requests, fun hn e he hd => h'.final (h.tags ▸ hn) e (h.final hn e he hd) hd⟩

theorem map (f : Entry → Entry) (hf : ∀ e ∈ l, (f e).request = e.request)
    (hd : (l.map (·.tag)).Nodup → ∀ e ∈ l, e.state.isDone = true → f e = e) : GoesOn l (l.map f) := by
  refine ⟨?_, fun hn e he hdone => List.mem_map.2 ⟨e, he, hd hn e he hdone⟩⟩
  rw [List.map_map]
  exact List.map_congr_left hf

/-- An entry that is not DONE takes another state, its attempt count another number. -/
theorem update {e : Entry} (he : e ∈ l) (hd : e.state.isDone = false) (f : Entry → Entry)
    (hf : ∀ x, (f x).request = x.request) : GoesOn l (l.map fun x => if x.tag = e.tag then f x else x) := by
  refine map _ (fun x _ => ?_) fun hn x hx hxd => ?_
  · split
    · exact hf x
    · rfl
  · rw [if_neg]
    intro htag
    rw [eq_of_tag _ hn x e hx he htag, hd] at hxd
    cases hxd

theorem finishWhere (s : State) (p : Entry → Bool) (status : Status) :
    GoesOn s.entries (s.finishWhere p status).entries := by
  refine map _ (fun e _ => ?_) fun _ e _ hd => ?_
  · split <;> rfl
  · simp [hd]

theorem finishEntry {s : State} {e : Entry} (he : e ∈ s.entries) (hd : e.state.isDone = false) (status : Status)
    (reply : List Byte) : GoesOn s.entries (s.finishEntry e.tag status reply).entries :=
  update he hd (fun x => { x with state := .done status reply }) fun _ => rfl

theorem reachOn (s : State) (d : DomainId) : GoesOn s.entries (s.reachOn d).entries := by
  have hentries : (s.reachOn d).entries = s.entries.map fun e =>
      if e.state.isParked && e.domain? == some d then { e with state := .queued } else e := by
    simp [State.reachOn, State.release]
  rw [hentries]
  refine map _ (fun e _ => ?_) fun _ e _ hd => ?_
  · split <;> rfl
  · have hp : e.state.isParked = false := by
      cases hs : e.state <;> simp_all [EntryState.isParked, EntryState.isDone]
    simp [hp]

theorem enterRestoring (s : State) (d : DomainId) : GoesOn s.entries (s.enterRestoring d).entries := by
  unfold State.enterRestoring
  split
  · exact of_eq (by simp)
  · exact reachOn s d

theorem advanceReplay (s : State) (d : DomainId) (k : Key) : GoesOn s.entries (s.advanceReplay d k).entries := by
  unfold State.advanceReplay
  split
  · exact of_eq (by simp)
  · exact reachOn s d

theorem segmentReset (s : State) (own : Byte) : GoesOn s.entries (s.segmentReset own).entries := by
  rw [State.segmentReset_entries]
  refine map _ (fun e _ => ?_) fun _ e _ hd => ?_
  · obtain ⟨y, hy⟩ := e.underReset_changesState own
    rw [hy]; rfl
  · cases hs : e.state <;>
      simp_all [Entry.underReset, Entry.resetAborts, EntryState.isQueued, EntryState.isParked, EntryState.isLocal,
        EntryState.isActive, EntryState.isDone]

theorem body {s t : State} {tag : Byte} {c : Instr} (hb : Body s tag c t) : GoesOn s.entries t.entries := by
  cases hb with
  | domainMoved hm =>
    obtain ⟨d, cs, y, -, rfl⟩ := hm
    exact of_eq (by simp)
  | segmentReset => exact segmentReset s tag
  | _ => exact of_eq (by simp)

theorem entryOutcome {s : State} {e : Entry} (he : e ∈ s.entries) (hd : e.state.isDone = false) (abort : Bool)
    (o : AttemptOutcome) : GoesOn s.entries (s.entryOutcome e abort o).entries := by
  obtain ⟨status, reply, cs, hr⟩ | ⟨-, hr⟩ := s.entryOutcome_cases e abort o <;> rw [hr]
  · rw [(State.raiseAll_frame _ cs).2.1]
    exact finishEntry he hd status reply
  · exact update he hd (fun x => { x with state := .queued, attempts := x.attempts + 1 }) fun _ => rfl

theorem delivered {s t : State} {x : Exchange} {o : AttemptOutcome} (h : Delivered s x o t) :
    GoesOn s.entries t.entries := by
  cases h with
  | ignored => exact refl _
  | @entry e abort _ he hs =>
    have ho := entryOutcome (mem_of_entry? s _ _ he).1 (by rw [hs]; rfl) abort o
    exact ho.trans (of_eq (by simp))
  | probePassed => exact (of_eq (by simp)).trans (enterRestoring _ _)
  | writeDone => exact (of_eq (by simp)).trans (advanceReplay _ _ _)
  | probeFailed | writeFailed => exact (of_eq (by simp)).trans (finishWhere _ _ _)
  | _ => exact of_eq (by simp)

end GoesOn

/-! ## What an event makes of the table -/

/-- What one event can make of the request table, the power-on reset apart. -/
inductive TableStep (s : State) : Instr → List Entry → Prop
  | goesOn (c : Instr) {l : List Entry} (h : GoesOn s.entries l) : TableStep s c l
  | added (data : Byte) (mark : CharMark) {e : Entry} (hfresh : ∀ x ∈ s.entries, x.tag ≠ e.tag)
      (hrx : s.uport.rx = .check) (htag : e.tag = s.uport.asm.header.getD 0 0)
      (hcmd : e.cmd = headerCommand s.uport.asm.header s.uport.asm.payload) :
      TableStep s (.urxCharacterReceived data mark) (s.entries ++ [e])
  | discarded : TableStep s .upstreamBreak []
  | freed {tag : Byte} (h : s.uport.sending = some (.reply tag)) :
      TableStep s .replySent (s.entries.filter (·.tag != tag))

theorem Effect.table {s t : State} {c : Instr} (h : Effect s c t) : TableStep s c t.entries := by
  have hsame : ∀ {c : Instr} {u : State}, u.entries = s.entries → TableStep s c u.entries :=
    fun he => .goesOn _ (.of_eq he)
  cases h with
  | character data mark =>
    generalize hr : (s.onLine (.afterCharacter mark)).receive data mark = t
    cases hr ▸ State.received_receive (s.onLine (.afterCharacter mark)) data mark with
    | receiverOnly | discarded => exact hsame (by simp)
    | delivered hrx =>
      obtain ⟨cause, ha⟩ | ⟨-, hfresh, u, snap, made, hu, ha⟩ := State.admission_cases
        ((s.onLine (.afterCharacter mark)).withUport
          { (s.onLine (.afterCharacter mark)).uport.toState .hunt with
            counters := (s.onLine (.afterCharacter mark)).uport.counters.addFrame })
        ((s.onLine (.afterCharacter mark)).uport.asm.header.getD 0 0)
        (headerCommand (s.onLine (.afterCharacter mark)).uport.asm.header
          (s.onLine (.afterCharacter mark)).uport.asm.payload) <;> rw [ha]
      · exact hsame (by simp)
      · have hentries : u.entries = s.entries := hu.kept.2.1
        rw [(State.enterTable_frame _ _ _ _ _).2.2.2.2.2.2.2.2.2.2.2.1, hentries]
        exact .added data mark hfresh hrx rfl rfl
  | upstreamBreak => rw [s.takeBreak_frame.1]; exact .discarded
  | replySent tag hs =>
    have hentries : (s.replyGone tag).entries = s.entries.filter (·.tag != tag) := by
      simp [State.replyGone, State.freeEntry]
    rw [hentries]
    exact .freed hs
  | parkExpired hf hp =>
    obtain ⟨hmem, rfl⟩ := mem_of_entry? s _ _ hf
    exact .goesOn _ ((GoesOn.finishEntry hmem (EntryState.isDone_of_isParked hp) .retry []).trans (.of_eq rfl))
  | answered hl hb =>
    obtain ⟨x, hx, htag, hd⟩ := hb.entry_waits hl
    rw [← htag]
    exact .goesOn _ ((GoesOn.body hb).trans (.finishEntry hx hd _ _))
  | notServed hl =>
    obtain ⟨hmem, hlocal⟩ := mem_of_oldestLocal hl
    exact .goesOn _ (GoesOn.finishEntry (s := s.raise .mgmtError) hmem (by rw [hlocal]; rfl) _ _)
  | domainMoved hm =>
    obtain ⟨d, cs, y, -, rfl⟩ := hm
    exact hsame (by simp)
  | settleFails | pgFalls => exact .goesOn _ ((GoesOn.of_eq (by simp)).trans (.finishWhere _ _ _))
  | settleRestores => exact .goesOn _ (.enterRestoring _ _)
  | @granted e _ hf =>
    obtain ⟨hmem, hq, -⟩ := mem_of_forwardCandidate hf
    exact .goesOn _ (.update hmem (by rw [hq]; rfl) (fun x => { x with state := .active false }) fun _ => rfl)
  | @ended c p x y o line _ _ =>
    exact .goesOn _ (GoesOn.delivered (s := s.freed line o) ((s.freed line o).delivered_deliver y o))
  | _ => exact hsame (by simp)

/-! ## Requests are kept, and DONE is final (R43, R44, R66) -/

/-- An entry of the table after an event: an old one's request, or a new one with a fresh tag. -/
theorem TableStep.mem {s : State} {c : Instr} {l : List Entry} (h : TableStep s c l) {x : Entry} (hx : x ∈ l) :
    (∃ e ∈ s.entries, e.request = x.request) ∨ ∀ e ∈ s.entries, e.tag ≠ x.tag := by
  cases h with
  | goesOn _ hl =>
    have := hl.requests ▸ List.mem_map_of_mem (f := Entry.request) hx
    exact .inl (List.mem_map.1 this)
  | added data mark hfresh =>
    rcases List.mem_append.1 hx with hx | hx
    · exact .inl ⟨x, hx, rfl⟩
    · exact .inr (List.mem_singleton.1 hx ▸ hfresh)
  | discarded => cases hx
  | freed => exact .inl ⟨x, (List.mem_filter.1 hx).1, rfl⟩

/-- With one entry to a tag, an entry that stays keeps its request. -/
theorem TableStep.request {s : State} {c : Instr} {l : List Entry} (h : TableStep s c l)
    (hn : (s.entries.map (·.tag)).Nodup) {e x : Entry} (he : e ∈ s.entries) (hx : x ∈ l) (htag : x.tag = e.tag) :
    x.request = e.request := by
  obtain ⟨y, hy, hreq⟩ | hfresh := h.mem hx
  · have hytag : y.tag = e.tag := (congrArg Prod.fst hreq).trans htag
    rw [← hreq, eq_of_tag _ hn y e hy he hytag]
  · exact absurd htag.symm (hfresh e he)

/-- An entry leaves by its reply or by a break alone. -/
theorem TableStep.stays {s : State} {c : Instr} {l : List Entry} (h : TableStep s c l) {e : Entry} (he : e ∈ s.entries)
    (hbreak : c ≠ .upstreamBreak) (hreply : ¬(c = .replySent ∧ s.uport.sending = some (.reply e.tag))) :
    ∃ x ∈ l, x.tag = e.tag := by
  cases h with
  | goesOn _ hl =>
    have := hl.tags.symm ▸ List.mem_map_of_mem (f := fun e : Entry => e.tag) he
    exact List.mem_map.1 this
  | added => exact ⟨e, List.mem_append_left _ he, rfl⟩
  | discarded => exact absurd rfl hbreak
  | @freed tag hs =>
    refine ⟨e, List.mem_filter.2 ⟨he, ?_⟩, rfl⟩
    rw [bne_iff_ne]
    intro htag
    exact hreply ⟨rfl, htag.symm ▸ hs⟩

/-- With one entry to a tag, a DONE entry that stays is unchanged. -/
theorem TableStep.final {s : State} {c : Instr} {l : List Entry} (h : TableStep s c l)
    (hn : (s.entries.map (·.tag)).Nodup) {e x : Entry} (he : e ∈ s.entries) (hd : e.state.isDone = true) (hx : x ∈ l)
    (htag : x.tag = e.tag) : x = e := by
  cases h with
  | goesOn _ hl => exact eq_of_tag _ (hl.tags ▸ hn) x e hx (hl.final hn e he hd) htag
  | added _ _ hfresh =>
    rcases List.mem_append.1 hx with hx | hx
    · exact eq_of_tag _ hn x e hx he htag
    · rw [List.mem_singleton.1 hx] at htag
      exact absurd htag.symm (hfresh e he)
  | discarded => cases hx
  | freed => exact eq_of_tag _ hn x e (List.mem_filter.1 hx).1 he htag

theorem Entry.domain?_eq_some_iff (e : Entry) (d : DomainId) :
    e.domain? = some d ↔ ∃ snap, e.snapshot = some snap ∧ snap.domain = some d := by
  simp [Entry.domain?, Option.bind_eq_some_iff]

/-- The mark tests of an entry's state, by constructor (R36). -/
theorem EntryState.tests_iff (x : EntryState) :
    (x.isLocal = true ↔ x = .waitingLocal) ∧ (x.isQueued = true ↔ x = .queued)
      ∧ (x.isParked = true ↔ ∃ timer, x = .parked timer) ∧ (x.isActive = true ↔ ∃ abort, x = .active abort)
      ∧ (x.isDone = true ↔ ∃ status reply, x = .done status reply) := by
  cases x <;> simp [EntryState.isLocal, EntryState.isQueued, EntryState.isParked, EntryState.isActive,
    EntryState.isDone]

theorem entry?_eq_some_iff {s : State} (hn : (s.entries.map (·.tag)).Nodup) (tag : Byte) (e : Entry) :
    s.entry? tag = some e ↔ e ∈ s.entries ∧ e.tag = tag :=
  ⟨mem_of_entry? s tag e, fun ⟨he, htag⟩ => htag ▸ entry?_of_mem s e hn he⟩

/-- Settles O23, from what one event can make of the table. -/
theorem entriesKeepRequestAndDoneIsFinal : Obligations.EntriesKeepRequestAndDoneIsFinal := by
  refine ⟨fun e => ?_, fun s tag e hn => entry?_eq_some_iff hn tag e, fun c s t e x hok h he hx htag => ?_,
    fun c s t e h he hbreak hreset hreply => ?_⟩
  · obtain ⟨hl, hq, hp, ha, hd⟩ := e.state.tests_iff
    exact ⟨hl, hq, hp, ha, hd, e.domain?_eq_some_iff⟩
  · obtain ⟨pins, -, rfl⟩ | ⟨u, rfl, heffect⟩ := exec_inversion h
    · cases hx
    · rw [announce_entries] at hx
      have hstep := heffect.table
      have hreq := hstep.request hok.2.1 he hx htag
      simp only [Entry.request, Prod.mk.injEq] at hreq
      exact ⟨hreq.2.1, hreq.2.2, fun hd => hstep.final hok.2.1 he hd hx htag⟩
  · obtain ⟨pins, hc, -⟩ | ⟨u, rfl, heffect⟩ := exec_inversion h
    · exact absurd hc (hreset pins)
    · rw [announce_entries]
      exact heffect.table.stays he hbreak hreply

end Sys2Proof.Machine
end

section
/-! PROOFS. The receiver's law is kept by every step, and with it the shape of every entry. -/
namespace Sys2Proof.Machine

/-! ## The sum of a frame under assembly -/

theorem checkSum_append (l l' : List Byte) : checkSum (l ++ l') = checkSum l + checkSum l' := by
  induction l with
  | nil => simp [checkSum]
  | cons b l ih => rw [List.cons_append, checkSum, checkSum, ih, BitVec.add_assoc]

theorem checkSum_singleton (b : Byte) : checkSum [b] = b := by simp [checkSum]

/-! ## The receiver's law -/

theorem ReceiverOk.congr {s t : State} (h : ReceiverOk s) (hrx : t.uport.rx = s.uport.rx)
    (hasm : t.uport.asm = s.uport.asm) : ReceiverOk t := by
  simpa only [ReceiverOk, hrx, hasm] using h

/-- With no frame under assembly the law holds in HUNT, DISCARD and at the start of HEADER. -/
theorem receiverOk_empty {s : State} (hasm : s.uport.asm = .empty)
    (hrx : s.uport.rx = .hunt ∨ s.uport.rx = .discard ∨ s.uport.rx = .header) : ReceiverOk s := by
  obtain hrx | hrx | hrx := hrx <;> simp [ReceiverOk, hasm, hrx, Assembly.empty, checkSum]

theorem receiverOk_check {s : State} (hrx : s.uport.rx = .check)
    (hsum : s.uport.asm.sum = checkSum (s.uport.asm.header ++ s.uport.asm.payload))
    (hlen : s.uport.asm.header.length = 6) (hok : headerUnusable s.uport.asm.header = false)
    (hpayload : s.uport.asm.payload.length = s.uport.asm.payloadCount) : ReceiverOk s := by
  refine ⟨hsum, ?_⟩
  rw [hrx]
  exact ⟨hlen, hok, hpayload⟩

theorem receiverOk_payload {s : State} (hrx : s.uport.rx = .payload)
    (hsum : s.uport.asm.sum = checkSum (s.uport.asm.header ++ s.uport.asm.payload))
    (hlen : s.uport.asm.header.length = 6) (hok : headerUnusable s.uport.asm.header = false)
    (hpayload : s.uport.asm.payload.length < s.uport.asm.payloadCount) : ReceiverOk s := by
  refine ⟨hsum, ?_⟩
  rw [hrx]
  exact ⟨hlen, hok, hpayload⟩

theorem receiverOk_header {s : State} (hrx : s.uport.rx = .header)
    (hsum : s.uport.asm.sum = checkSum (s.uport.asm.header ++ s.uport.asm.payload))
    (hlen : s.uport.asm.header.length < 6) (hpayload : s.uport.asm.payload = []) : ReceiverOk s := by
  refine ⟨hsum, ?_⟩
  rw [hrx]
  exact ⟨hlen, hpayload⟩

theorem ReceiverOk.sum {s : State} (h : ReceiverOk s) :
    s.uport.asm.sum = checkSum (s.uport.asm.header ++ s.uport.asm.payload) := h.1

theorem ReceiverOk.of_header {s : State} (h : ReceiverOk s) (hrx : s.uport.rx = .header) :
    s.uport.asm.header.length < 6 ∧ s.uport.asm.payload = [] := by
  obtain ⟨-, h⟩ := h
  rwa [hrx] at h

theorem ReceiverOk.of_payload {s : State} (h : ReceiverOk s) (hrx : s.uport.rx = .payload) :
    s.uport.asm.header.length = 6 ∧ headerUnusable s.uport.asm.header = false
      ∧ s.uport.asm.payload.length < s.uport.asm.payloadCount := by
  obtain ⟨-, h⟩ := h
  rwa [hrx] at h

theorem ReceiverOk.of_check {s : State} (h : ReceiverOk s) (hrx : s.uport.rx = .check) :
    s.uport.asm.header.length = 6 ∧ headerUnusable s.uport.asm.header = false
      ∧ s.uport.asm.payload.length = s.uport.asm.payloadCount := by
  obtain ⟨-, h⟩ := h
  rwa [hrx] at h

theorem receiverOk_discardFrame (s : State) (count : UCounters → UCounters) {next : RxState}
    (hnext : next = .hunt ∨ next = .discard) : ReceiverOk (s.discardFrame count next) := by
  refine receiverOk_empty rfl ?_
  obtain rfl | rfl := hnext
  · exact .inl rfl
  · exact .inr (.inl rfl)

/-! ## One character -/

theorem ReceiverOk.huntCharacter {s : State} (h : ReceiverOk s) (data : Byte) (mark : CharMark) :
    ReceiverOk (s.huntCharacter data mark) := by
  unfold State.huntCharacter
  split
  · exact receiverOk_empty rfl (.inr (.inr rfl))
  · exact h.congr rfl rfl

theorem ReceiverOk.headerCharacter {s : State} (h : ReceiverOk s) (hrx : s.uport.rx = .header) (data : Byte) :
    ReceiverOk (s.headerCharacter data) := by
  obtain ⟨hlen, hpayload⟩ := h.of_header hrx
  have hsum : (s.uport.asm.takeHeader data).sum
      = checkSum ((s.uport.asm.takeHeader data).header ++ (s.uport.asm.takeHeader data).payload) := by
    have hs := h.sum
    rw [hpayload, List.append_nil] at hs
    simp only [Assembly.takeHeader, hpayload, List.append_nil, checkSum_append, checkSum_singleton, hs]
  have htaken : (s.uport.asm.takeHeader data).header.length = s.uport.asm.header.length + 1 := by
    simp [Assembly.takeHeader]
  unfold State.headerCharacter State.afterHeader
  split
  next hshort => exact receiverOk_header hrx hsum hshort hpayload
  next hfull =>
    have hsix : (s.uport.asm.takeHeader data).header.length = 6 := by omega
    split
    · exact receiverOk_discardFrame s _ (.inr rfl)
    next husable =>
      rw [Bool.not_eq_true] at husable
      have hnone : (s.uport.asm.takeHeader data).payload.length = 0 := congrArg List.length hpayload
      split
      next hzero => exact receiverOk_check rfl hsum hsix husable (hnone.trans hzero.symm)
      next hsome => exact receiverOk_payload rfl hsum hsix husable (hnone ▸ Nat.pos_of_ne_zero hsome)

theorem ReceiverOk.payloadCharacter {s : State} (h : ReceiverOk s) (hrx : s.uport.rx = .payload) (data : Byte) :
    ReceiverOk (s.payloadCharacter data) := by
  obtain ⟨hlen, hok, hmore⟩ := h.of_payload hrx
  have hsum : (s.uport.asm.takePayload data).sum
      = checkSum ((s.uport.asm.takePayload data).header ++ (s.uport.asm.takePayload data).payload) := by
    simp only [Assembly.takePayload, ← List.append_assoc, checkSum_append _ [data], checkSum_singleton, h.sum]
  have htaken : (s.uport.asm.takePayload data).payload.length = s.uport.asm.payload.length + 1 := by
    simp [Assembly.takePayload]
  have hcount : (s.uport.asm.takePayload data).payloadCount = s.uport.asm.payloadCount := rfl
  unfold State.payloadCharacter State.afterPayload
  split
  next hshort => exact receiverOk_payload hrx hsum hlen hok hshort
  next hfull => exact receiverOk_check rfl hsum hlen hok (by dsimp only [State.withUport_uport]; omega)

theorem ReceiverOk.admission {s : State} (h : ReceiverOk s) (tag : Byte) (c : Command) :
    ReceiverOk (s.admission tag c) := by
  obtain ⟨hrx, hasm, -⟩ := s.admission_sameReceiver tag c
  exact h.congr hrx hasm

theorem receiverOk_checkCharacter (s : State) (data : Byte) : ReceiverOk (s.checkCharacter data) := by
  unfold State.checkCharacter
  split
  · refine ReceiverOk.admission ?_ _ _
    exact receiverOk_empty rfl (.inl rfl)
  · exact receiverOk_discardFrame s _ (.inl rfl)

theorem ReceiverOk.receive {s : State} (h : ReceiverOk s) (data : Byte) (mark : CharMark) :
    ReceiverOk (s.receive data mark) := by
  have hdiscard := fun count => receiverOk_discardFrame s count (next := .discard) (.inr rfl)
  have hgood : ReceiverOk (s.frameCharacter data) := by
    unfold State.frameCharacter
    split
    next hrx => exact h.headerCharacter hrx data
    next hrx => exact h.payloadCharacter hrx data
    next => exact receiverOk_checkCharacter s data
    next => exact h
    next => exact h
  unfold State.receive
  split
  case h_1 => exact h.huntCharacter data mark
  case h_2 => exact h
  all_goals
    cases mark with
    | good => exact hgood
    | parity | framing => exact hdiscard _

/-! ## Every effect -/

theorem State.transmitterChoice_receiver (s : State) :
    s.transmitterChoice.uport.rx = s.uport.rx ∧ s.transmitterChoice.uport.asm = s.uport.asm := by
  unfold State.transmitterChoice State.send
  repeat' split
  all_goals exact ⟨rfl, rfl⟩

theorem ReceiverOk.transmitterChoice {s : State} (h : ReceiverOk s) : ReceiverOk s.transmitterChoice :=
  h.congr s.transmitterChoice_receiver.1 s.transmitterChoice_receiver.2

theorem ReceiverOk.same {s t : State} (h : ReceiverOk s) (hu : t.uport = s.uport) : ReceiverOk t :=
  h.congr (by rw [hu]) (by rw [hu])

theorem ReceiverOk.body {s t : State} {tag : Byte} {c : Instr} (h : ReceiverOk s) (hb : Body s tag c t) :
    ReceiverOk t := by
  cases hb with
  | settings | countersCleared => exact h.congr rfl rfl
  | domainMoved hm =>
    obtain ⟨d, cs, y, -, rfl⟩ := hm
    exact h.same (by simp)
  | _ => exact h.same (by simp)

theorem UPort.takeBreak_receiver (u : UPort) : u.takeBreak.rx = .hunt ∧ u.takeBreak.asm = .empty := by
  unfold UPort.takeBreak
  obtain ⟨p, -, h⟩ | h := (u.toState .hunt).takeUpAtBreak_cases <;> rw [h] <;> exact ⟨rfl, rfl⟩

theorem ReceiverOk.effect {s t : State} {c : Instr} (h : ReceiverOk s) (he : Effect s c t) : ReceiverOk t := by
  cases he with
  | character data mark =>
    refine ReceiverOk.receive ?_ data mark
    exact h.congr rfl rfl
  | gapExpiry => exact receiverOk_discardFrame s _ (.inl rfl)
  | discardEnd | breakEnd => exact receiverOk_empty rfl (.inl rfl)
  | upstreamBreak =>
    obtain ⟨hrx, hasm⟩ := s.uport.takeBreak_receiver
    rw [← State.takeBreak_uport] at hrx hasm
    exact receiverOk_empty hasm (.inl hrx)
  | choice => exact h.transmitterChoice
  | refusalSent | noticeSent =>
    refine ReceiverOk.transmitterChoice ?_
    exact h.congr rfl rfl
  | replySent tag =>
    refine ReceiverOk.transmitterChoice ?_
    obtain ⟨p, -, hu⟩ | hu := UPort.takeUpAfter_cases
      { s.uport with tx := none, counters := s.uport.counters.addReply } tag <;> rw [hu] <;> exact h.congr rfl rfl
  | urxLine => exact h.congr rfl rfl
  | answered _ hb => exact (h.body hb).same (by simp)
  | domainMoved hm =>
    obtain ⟨d, cs, y, -, rfl⟩ := hm
    exact h.same (by simp)
  | _ => exact h.same (by simp)

/-- The shape of an entry, read from its request (R36). -/
theorem entriesOk_effect {s t : State} {c : Instr} (h : ReceiverOk s) (hentries : EntriesOk s) (he : Effect s c t) :
    EntriesOk t := by
  intro x hx
  have hold : ∀ e ∈ s.entries, e.request = x.request →
      x.tag.toNat ≤ 0x0F ∧ x.cmd.payload.length = requestPayloadCount x.cmd.op x.cmd.length := by
    intro e he hreq
    simp only [Entry.request, Prod.mk.injEq] at hreq
    rw [← hreq.1, ← hreq.2.1]
    exact hentries e he
  generalize hl : t.entries = l at hx
  cases hl ▸ he.table with
  | goesOn _ hl =>
    obtain ⟨e, he, hreq⟩ := List.mem_map.1 (hl.requests ▸ List.mem_map_of_mem (f := Entry.request) hx)
    exact hold e he hreq
  | added data mark _ hrx htag hcmd =>
    rcases List.mem_append.1 hx with hx | hx
    · exact hold x hx rfl
    · obtain ⟨-, hok, hpayload⟩ := h.of_check hrx
      rw [List.mem_singleton.1 hx, htag, hcmd]
      refine ⟨?_, hpayload⟩
      have := (headerUnusable_iff s.uport.asm.header).not.1 (by rw [hok]; decide)
      omega
  | discarded => cases hx
  | freed => exact hold x (List.mem_filter.1 hx).1 rfl

theorem entriesOk_tick {s : State} (h : EntriesOk s) : EntriesOk s.tick := by
  intro x hx
  obtain ⟨e, he, rfl⟩ := List.mem_map.1 (show x ∈ s.entries.map Entry.tick from hx)
  have hreq : e.tick.tag = e.tag ∧ e.tick.cmd = e.cmd := by
    unfold Entry.tick
    split <;> exact ⟨rfl, rfl⟩
  rw [hreq.1, hreq.2]
  exact h e he

/-- Settles O60. -/
theorem stepKeepsReceiverLaw : Obligations.StepKeepsReceiverLaw := fun _ _ h hentries =>
  step_keeps (P := fun s => ReceiverOk s ∧ EntriesOk s)
    (fun pins waiting => ⟨receiverOk_powerOn pins waiting, entriesOk_powerOn pins waiting⟩)
    (fun _ _ ⟨h, hentries⟩ => ⟨h.same rfl, hentries⟩)
    (fun _ ⟨h, hentries⟩ => ⟨h.congr rfl rfl, entriesOk_tick hentries⟩)
    (fun s t ⟨h, hentries⟩ => ⟨h.congr (by rw [announce_uport]) (by rw [announce_uport]), by
      simpa only [EntriesOk, announce_entries] using hentries⟩)
    (fun _ _ _ ⟨h, hentries⟩ he => ⟨h.effect he, entriesOk_effect h hentries he⟩) ⟨h, hentries⟩

end Sys2Proof.Machine
end

section
/-! PROOFS. What an event makes of the event unit, notice-pending and the tables, and the rules over every command. -/
namespace Sys2Proof.Machine

/-! ## The event unit -/

/-- Classes are only set between two event units: the enable set and the inputs stand, and no class leaves (R145). -/
structure Raises (x y : EventUnit) : Prop where
  enable : y.enable = x.enable
  inputs : y.inputs = x.inputs
  status : ∀ k : EventClass, x.status.has k = true → y.status.has k = true

namespace Raises

theorem refl (x : EventUnit) : Raises x x := ⟨rfl, rfl, fun _ h => h⟩

theorem of_eq {x y : EventUnit} (h : y = x) : Raises x y := h ▸ refl x

theorem trans {x y z : EventUnit} (h : Raises x y) (h' : Raises y z) : Raises x z :=
  ⟨h'.enable.trans h.enable, h'.inputs.trans h.inputs, fun k hk => h'.status k (h.status k hk)⟩

theorem raise (s : State) (c : EventClass) : Raises s.events (s.raise c).events :=
  ⟨rfl, rfl, fun k hk => by rw [raise_has, hk]; rfl⟩

theorem raiseAll (s : State) (cs : List EventClass) : Raises s.events (s.raiseAll cs).events := by
  induction cs generalizing s with
  | nil => exact refl _
  | cons c cs ih => exact (raise s c).trans (ih (s.raise c))

/-- A fold of operations that only set classes. -/
theorem foldl {α : Type} (f : State → α → State) (hf : ∀ s a, Raises s.events (f s a).events) (l : List α) (s : State) :
    Raises s.events (l.foldl f s).events := by
  induction l generalizing s with
  | nil => exact refl _
  | cons a l ih => exact (hf s a).trans (ih (f s a))

theorem drainCheck (s : State) (d : DomainId) : Raises s.events (s.drainCheck d).events := by
  by_cases h : (s.dom d).state = .draining ∧ NoWork s d
  · rw [drainCheck_done s d h.1 h.2, (State.setDom_frame _ _ _).2.2.2.2.2.2.2.2.2.1]
    exact raise s _
  · rw [drainCheck_not s d h]
    exact refl _

theorem drainDomain (s : State) (d : Option DomainId) : Raises s.events (s.drainDomain d).events := by
  cases d with
  | none => exact refl _
  | some d => exact drainCheck s d

theorem attemptFails (s : State) (d : DomainId) (cause : FaultCause) :
    Raises s.events (s.attemptFails d cause).events := by
  by_cases hl : (s.dom d).attempt < (s.dom d).config.wakeLimit.toNat
  · rw [attemptFails_again s d cause hl]
    exact (raise s .wakeRetry).trans (of_eq (by simp))
  · rw [attemptFails_last s d cause (Nat.le_of_not_lt hl)]
    exact (raise s .domainFault).trans (of_eq (by simp))

theorem powerGoodFalls (s : State) (d : DomainId) : Raises s.events (s.powerGoodFalls d).events := by
  unfold State.powerGoodFalls
  split
  case h_1 | h_2 | h_3 => exact ⟨by simp [State.enterFault], by simp [State.enterFault], fun k hk => by
    simp only [State.enterFault, raise_has, Bool.or_eq_true]
    exact .inl (by simpa using hk)⟩
  case h_4 | h_5 => exact attemptFails s d _
  all_goals exact refl _

theorem powerGoodFalling (s : State) (i : Fin 4) : Raises s.events (s.powerGoodFalling i).events := by
  refine foldl _ (fun t d => ?_) allDomains s
  split
  · exact powerGoodFalls t d
  · exact refl _

theorem reachOn (s : State) (d : DomainId) : Raises s.events (s.reachOn d).events := by
  refine Raises.trans (of_eq ?_) (raise _ _)
  simp

theorem enterRestoring (s : State) (d : DomainId) : Raises s.events (s.enterRestoring d).events := by
  unfold State.enterRestoring
  split
  · exact of_eq (by simp)
  · exact reachOn s d

theorem advanceReplay (s : State) (d : DomainId) (k : Key) : Raises s.events (s.advanceReplay d k).events := by
  unfold State.advanceReplay
  split
  · exact of_eq (by simp)
  · exact reachOn s d

theorem offerOutcome (s : State) (x : Exchange) (o : AttemptOutcome) :
    Raises s.events (s.offerOutcome x o).events := by
  obtain ⟨henable, hinputs⟩ := offerOutcome_events s x o
  exact ⟨henable, hinputs, fun k hk => ((offerOutcome_eq s s x o rfl rfl).2 k).2 (.inl hk)⟩

theorem entryOutcome (s : State) (e : Entry) (abort : Bool) (o : AttemptOutcome) :
    Raises s.events (s.entryOutcome e abort o).events := by
  obtain ⟨status, reply, cs, hr⟩ | ⟨-, hr⟩ := s.entryOutcome_cases e abort o <;> rw [hr]
  · exact raiseAll (s.finishEntry e.tag status reply) cs
  · exact of_eq (by simp)

theorem delivered {s t : State} {x : Exchange} {o : AttemptOutcome} (h : Delivered s x o t) :
    Raises s.events t.events := by
  cases h with
  | ignored => exact refl _
  | @entry e abort =>
    exact ((entryOutcome s e abort o).trans (offerOutcome _ x o)).trans (drainDomain _ _)
  | orphan => exact (offerOutcome s x o).trans (drainDomain _ _)
  | probePassed => exact (of_eq (by simp)).trans (enterRestoring _ _)
  | @probeFailed d => exact (attemptFails s d .checkFailed).trans (of_eq (by simp))
  | @writeDone d _ k cs => exact ((of_eq (by simp)).trans (raiseAll (s.clearNote d) cs)).trans (advanceReplay _ _ _)
  | @writeFailed d =>
    exact ((of_eq (by simp)).trans (attemptFails (s.clearNote d) d .restoreFailed)).trans (of_eq (by simp))
  | _ => exact of_eq (by simp)

theorem countHit (s : State) (i : Fin 32) : Raises s.events (s.countHit i).events := by
  unfold State.countHit
  dsimp only
  split
  · exact raise (s.withHits _) _
  · exact refl _

theorem admission (s : State) (tag : Byte) (c : Command) : Raises s.events (s.admission tag c).events := by
  obtain ⟨cause, ha⟩ | ⟨-, -, u, snap, made, hu, ha⟩ := s.admission_cases tag c <;> rw [ha]
  · unfold State.refuseFrame
    split
    · exact refl _
    · exact raise (s.withUport _) _
  · refine Raises.trans ?_ (of_eq (x := u.events) (by simp))
    cases hu with
    | answered | waitsLocal => exact refl _
    | denied i => exact countHit s i
    | @noDomain i => exact countHit s i
    | @arrives i => exact (countHit s i).trans (of_eq (by simp))

theorem received {s t : State} (h : Received s t) : Raises s.events t.events := by
  cases h with
  | receiverOnly => exact refl _
  | discarded count next => exact raise (s.withUport _) _
  | delivered =>
    refine Raises.trans (of_eq ?_) (admission _ _ _)
    rfl

theorem drainAll (s : State) : Raises s.events s.drainAll.events :=
  foldl (fun t d => t.drainCheck d) drainCheck allDomains s

theorem takeBreak (s : State) : Raises s.events s.takeBreak.events := by
  unfold State.takeBreak
  refine Raises.trans ?_ (drainAll _)
  exact raise (s.withUport s.uport.takeBreak) .linkError

end Raises

theorem DomainMoved.events {s t : State} (h : DomainMoved s t) : Raises s.events t.events := by
  obtain ⟨d, cs, y, -, rfl⟩ := h
  exact (Raises.raiseAll s cs).trans (.of_eq (by simp))

/-- What one event can make of the event unit, the power-on reset apart: classes set, with a filter or an edge-seen mark
of one input; a WRITE of enable and clear characters; or a WRITE of the inputs' configurations. -/
inductive EventsStep (x : EventUnit) : Instr → EventUnit → Prop
  | raised (c : Instr) {y : EventUnit} (h : Raises x y) : EventsStep x c y
  | input (c : Instr) (i : Fin 4) (f : Filter) (seen : Bool) {y : EventUnit}
      (h : Raises { x with inputs := x.inputs.set i { x.inputs.get i with filter := f, seen := seen } } y) :
      EventsStep x c y
  | written {c : Instr} (hc : c = .enableWrite ∨ c = .clearWrite) (enable cleared : EventSet) :
      EventsStep x c (x.write enable cleared)
  | configured (cs : Vector ExtConfig 4) : EventsStep x .mgmtWrite (x.configure cs)

theorem EventsStep.of_eq {x y : EventUnit} (c : Instr) (h : y = x) : EventsStep x c y := .raised c (.of_eq h)

theorem Effect.events {s t : State} {c : Instr} (h : Effect s c t) : EventsStep s.events c t.events := by
  cases h with
  | character data mark =>
    exact .raised _ (Raises.received (s := s.onLine (.afterCharacter mark)) (State.received_receive _ data mark))
  | gapExpiry => exact .raised _ (Raises.received (.discarded _ _))
  | upstreamBreak => exact .raised _ (.takeBreak s)
  | parkExpired => exact .raised _ (.raise (s.finishEntry _ _ _) _)
  | answered _ hb =>
    have hfinish : ∀ (t : State) tag status reply, (t.finishEntry tag status reply).events = t.events := by simp
    rw [hfinish]
    cases hb with
    | extConfig cs => exact .configured cs
    | events hc enable cleared => exact .written hc enable cleared
    | domainMoved hm => exact .raised _ hm.events
    | _ => exact .of_eq _ (by simp)
  | notServed => exact .raised _ (.raise s _)
  | domainMoved hm => exact .raised _ hm.events
  | @settleFails d => exact .raised _ ((Raises.attemptFails s d .pgLow).trans (.of_eq (by simp)))
  | settleRestores => exact .raised _ (.enterRestoring s _)
  | pgFalls i p => exact .raised _ ((Raises.powerGoodFalling (s.withPg p) i).trans (.of_eq (by simp)))
  | inputFilter _ i f => exact .input _ i f (s.events.inputs.get i).seen (.of_eq rfl)
  | edgeSelected i f =>
    refine .input _ i f true ?_
    rw [State.selectedEdge_events]
    have hseen : ((s.setInput i { s.events.inputs.get i with filter := f }).setInput i
        { (s.setInput i { s.events.inputs.get i with filter := f }).events.inputs.get i with seen := true }).events =
        { s.events with inputs := s.events.inputs.set i { s.events.inputs.get i with filter := f, seen := true } } := by
      simp [State.setInput]
    rw [← hseen]
    split
    · exact .raise _ _
    · exact .refl _
  | @ended c p x y o line _ _ =>
    exact .raised _ (Raises.delivered (s := s.freed line o) ((s.freed line o).delivered_deliver y o))
  | _ => exact .of_eq _ (by simp)

/-! ## Waiting commands, tables and notice-pending -/

theorem Effect.pending {s t : State} {c : Instr} (h : Effect s c t) : t.pending = s.pending := by
  cases h with
  | answered _ hb =>
    cases hb with
    | domainMoved hm =>
      obtain ⟨d, cs, y, -, rfl⟩ := hm
      simp
    | _ => simp
  | domainMoved hm =>
    obtain ⟨d, cs, y, -, rfl⟩ := hm
    simp
  | _ => simp

theorem Effect.windows {s t : State} {c : Instr} (h : Effect s c t) (hc : c ≠ .windowWrite) :
    t.windows = s.windows := by
  cases h with
  | answered _ hb =>
    cases hb with
    | windows => exact absurd rfl hc
    | domainMoved hm =>
      obtain ⟨d, cs, y, -, rfl⟩ := hm
      simp
    | _ => simp
  | domainMoved hm =>
    obtain ⟨d, cs, y, -, rfl⟩ := hm
    simp
  | _ => simp

theorem Effect.hits {s t : State} {c : Instr} (h : Effect s c t) (hclear : c ≠ .clearCounters)
    (hchar : ∀ data mark, c ≠ .urxCharacterReceived data mark) : t.hits = s.hits := by
  cases h with
  | character data mark => exact absurd rfl (hchar data mark)
  | answered _ hb =>
    cases hb with
    | countersCleared => exact absurd rfl hclear
    | domainMoved hm =>
      obtain ⟨d, cs, y, -, rfl⟩ := hm
      simp
    | _ => simp
  | domainMoved hm =>
    obtain ⟨d, cs, y, -, rfl⟩ := hm
    simp
  | _ => simp

theorem State.transmitterChoice_notice {s : State} (h : s.transmitterChoice.uport.noticePending = true) :
    s.uport.noticePending = true := by
  unfold State.transmitterChoice at h
  repeat' split at h
  all_goals simp_all [State.send]

theorem Received.notice {s t : State} (h : Received s t) : t.uport.noticePending = s.uport.noticePending := by
  cases h with
  | receiverOnly | discarded => rfl
  | delivered =>
    obtain ⟨cause, ha⟩ | ⟨-, -, u, snap, made, hu, ha⟩ := State.admission_cases
      (s.withUport { s.uport.toState .hunt with counters := s.uport.counters.addFrame })
      (s.uport.asm.header.getD 0 0) (headerCommand s.uport.asm.header s.uport.asm.payload) <;> rw [ha]
    · unfold State.refuseFrame
      split <;> rfl
    · rw [(State.enterTable_frame _ _ _ _ _).1, hu.kept.1]
      rfl

/-- No effect raises notice-pending; that is left to the end of the event (R152). -/
theorem Effect.notice {s t : State} {c : Instr} (h : Effect s c t) (ht : t.uport.noticePending = true) :
    s.uport.noticePending = true := by
  have hsame : ∀ {u : State}, t.uport = u.uport → u.uport.noticePending = s.uport.noticePending →
      s.uport.noticePending = true := fun hu hn => by rw [← hn, ← hu]; exact ht
  cases h with
  | character data mark =>
    rw [(State.received_receive (s.onLine (.afterCharacter mark)) data mark).notice] at ht
    exact ht
  | upstreamBreak => rw [State.takeBreak_uport] at ht; cases ht
  | choice => exact State.transmitterChoice_notice ht
  | refusalSent | noticeSent => exact (State.transmitterChoice_notice ht :)
  | replySent tag =>
    have hn := State.transmitterChoice_notice ht
    obtain ⟨p, -, hu⟩ | hu := UPort.takeUpAfter_cases
      { s.uport with tx := none, counters := s.uport.counters.addReply } tag <;> rw [hu] at hn <;> exact hn
  | gapExpiry | discardEnd | breakEnd | urxLine => exact ht
  | answered _ hb =>
    cases hb with
    | settings | countersCleared => exact ht
    | domainMoved hm =>
      obtain ⟨d, cs, y, -, rfl⟩ := hm
      simpa using ht
    | _ => simpa using ht
  | domainMoved hm =>
    obtain ⟨d, cs, y, -, rfl⟩ := hm
    simpa using ht
  | _ => simpa using ht

/-! ## The rules over every command -/

/-- Settles O3: a power-on reset keeps the queue, and so does every effect. -/
theorem everyCommandAnswersANextState : Obligations.EveryCommandAnswersANextState := by
  intro c s
  by_cases hc : ∃ pins, c = .powerOnReset pins
  · obtain ⟨pins, rfl⟩ := hc
    exact ⟨_, rfl, rfl⟩
  · obtain ⟨u, hu, he⟩ := exec_effect c s fun pins hp => hc ⟨pins, hp⟩
    exact ⟨_, hu, by rw [announce_pending, he.pending]⟩

theorem SettingsStep.settings_eq {x y : Settings} {c : Instr} (h : SettingsStep x c y)
    (hc : c ≠ .mgmtWrite ∧ c ≠ .uportFormatWrite ∧ c ≠ .sportFormatWrite) :
    y.parkLimit = x.parkLimit ∧ y.upstream = x.upstream ∧ y.segment = x.segment ∧ y.answerTimeout = x.answerTimeout
      ∧ y.retryCount = x.retryCount ∧ y.defaultGap = x.defaultGap := by
  cases h with
  | written hw =>
    obtain ⟨h1, h2, h3⟩ := hc
    obtain hw | hw | hw := hw
    · exact absurd hw h1
    · exact absurd hw h2
    · exact absurd hw h3
  | _ => exact ⟨rfl, rfl, rfl, rfl, rfl, rfl⟩

theorem EventsStep.config_eq {x y : EventUnit} {c : Instr} (h : EventsStep x c y) (hc : c ≠ .mgmtWrite) (i : Fin 4) :
    (y.inputs.get i).config = (x.inputs.get i).config := by
  cases h with
  | raised _ h => rw [h.inputs]
  | input _ j f seen h =>
    rw [h.inputs, get_set_eq]
    split
    next hij => rw [hij]
    next => rfl
  | written _ enable cleared =>
    unfold EventUnit.write
    dsimp only
    split
    · rw [get_tabulate]
    · rfl
  | configured => exact absurd rfl hc

theorem EventsStep.monotone {x y : EventUnit} {c : Instr} (h : EventsStep x c y) (henable : c ≠ .enableWrite)
    (hclear : c ≠ .clearWrite) :
    y.enable = x.enable ∧ ∀ k : EventClass, x.status.has k = true → y.status.has k = true := by
  cases h with
  | raised _ h => exact ⟨h.enable, h.status⟩
  | input _ j f seen h => exact ⟨h.enable, h.status⟩
  | written hc =>
    obtain hc | hc := hc
    · exact absurd hc henable
    · exact absurd hc hclear
  | configured => exact ⟨rfl, fun _ h => h⟩

section DomainRules
variable {mgmt : Byte} {l : List ShadowEntry} {x y : Domain} {old note : Option RetryNote} {c : Instr}

theorem DomainStep.config_eq (h : DomainStep mgmt l x old c y note) (hc : c ≠ .domainConfigWrite) :
    y.config = x.config := by
  cases h with
  | moved hm => exact hm.config
  | failed cause => exact x.failedAttempt_config cause
  | configured => exact absurd rfl hc
  | _ => rfl

/-- A domain leaves FAULT by CLEAR_FAULT or SEGMENT_RESET alone (R92). -/
theorem DomainStep.fault_stays (h : DomainStep mgmt l x old c y note) (hx : x.state = .fault) (hclear : c ≠ .clearFault)
    (hreset : c ≠ .segmentReset) : y.state = .fault := by
  have hnot : x.state.inAttempt = false ∧ x.state.inService = false ∧ x.state.takesActivity = false := by
    rw [hx]; exact ⟨rfl, rfl, rfl⟩
  obtain ⟨hattempt, hservice, hactivity⟩ := hnot
  cases h with
  | moved hm =>
    cases hm with
    | stays => exact hx
    | active => rw [Domain.active_of_not_takesActivity hactivity]; exact hx
    | willWake => exact hx
    | drains h => rw [h] at hactivity; cases hactivity
    | powersDown h =>
      obtain h | h := h
      · rw [h] at hactivity; cases hactivity
      · rw [hx] at h; cases h
    | woken h | idleStops h | warned h | restarts h | turnsOff h | probes h => rw [hx] at h; cases h
  | granted h | failed _ h | restores h | reachesOn h => rw [h] at hattempt; cases hattempt
  | retried => exact hx
  | powerLost h => rw [h] at hservice; cases hservice
  | configured =>
    unfold Domain.configure
    dsimp only
    rw [if_neg (by simp [hx, DomState.isWarning]), hx]
  | faultCleared => exact absurd rfl hclear
  | reset => exact absurd rfl hreset
  | countsCleared => exact hx

end DomainRules

/-- Settles O28, table by table. -/
theorem onlyNamedCommandsChangeTables : Obligations.OnlyNamedCommandsChangeTables := by
  intro c s t h hreset
  obtain ⟨pins, hc, -⟩ | ⟨u, rfl, he⟩ := exec_inversion h
  · exact absurd hc (hreset pins)
  · refine ⟨fun hc => by rw [announce_windows, he.windows hc], by rw [announce_straps, he.straps], fun hc d => ?_,
      fun hc i => ?_, fun hw hu hs => ?_, fun hclear hchar => by rw [announce_hits, he.hits hclear hchar],
      fun hclear hsr d hd => ?_⟩
    · rw [dom_announce]
      exact (he.domain d).config_eq hc
    · rw [announce_events]
      exact he.events.config_eq hc i
    · have := he.settingsStep.settings_eq ⟨hw, hu, hs⟩
      rwa [← State.settings_announce s u] at this
    · rw [dom_announce]
      exact (he.domain d).fault_stays hd hclear hsr

theorem alert_iff (s : State) :
    s.alert = true ↔ ∃ c : EventClass, s.events.status.has c = true ∧ s.events.enable.has c = true := by
  rw [← live_ne_zero]
  simp [State.alert]

theorem sdlDriven_iff (s : State) : (s.outputsAt false).sdlDriven = true ↔ ∃ x, InPhase s .send x := by
  have hframe : (s.outputsAt false).sdlDriven = (s.sport.inPhase .send).isSome := by
    simp [State.outputs, SPort.frameOnLine]
  rw [hframe, Option.isSome_iff_exists]
  exact exists_congr fun x => ⟨SPort.inPhase_eq_some, inPhase_some s .send x⟩

theorem DomState.powered_iff (x : DomState) :
    x.powered = true ↔ (∃ n, x = .settling n) ∨ (∃ p g, x = .checking p g) ∨ (∃ k g, x = .restoring k g)
      ∨ (∃ n, x = .on n) ∨ (∃ n, x = .warning n) ∨ x = .draining := by
  cases x <;> simp [DomState.powered]

theorem DomState.tests_iff (x : DomState) :
    (x.inService = true ↔ (∃ n, x = .on n) ∨ (∃ n, x = .warning n) ∨ x = .draining)
      ∧ (x.isWarning = true ↔ ∃ n, x = .warning n) ∧ (x.isRestoring = true ↔ ∃ k g, x = .restoring k g)
      ∧ (x.isFault = true ↔ x = .fault) := by
  cases x <;> simp [DomState.inService, DomState.isWarning, DomState.isRestoring, DomState.isFault]

/-- Settles O29: what the lines show of a state, and what an event makes of the event unit and of notice-pending. -/
theorem eventClassesPowerLinesAndNoticePending : Obligations.EventClassesPowerLinesAndNoticePending := by
  refine ⟨fun s => ⟨alert_iff s, fun c => ?_, rfl, rfl, ?_, sdlDriven_iff s⟩, DomState.tests_iff, domainServes_iff,
    fun s d => ?_, fun c s t h => ?_⟩
  · simp [EventSet.has, EventUnit.live]
  · simp [State.outputs, Option.isSome_iff_ne_none]
  · have hpowered := (s.dom d).state.powered_iff
    refine ⟨fun hp => ?_, fun hp => ?_, ?_⟩
    · rw [State.powerLine, hp]; exact hpowered
    · rw [State.powerLine, hp, ← hpowered]; simp
    · simp
  · obtain ⟨pins, rfl, rfl⟩ | ⟨u, rfl, he⟩ := exec_inversion h
    · exact ⟨fun _ _ => rfl, fun hreset => absurd rfl (hreset pins)⟩
    · have hlive : (s.alert = false ∧ (announce s u).alert = true) ↔
          (s.events.live == 0 && u.events.live != 0) = true := by
        simp [State.alert]
      refine ⟨fun hs ht => ?_, fun _ => ⟨fun hn => ?_, fun henable hclear => ?_⟩⟩
      · rw [announce_uport, Bool.or_eq_true]
        exact .inr (hlive.1 ⟨hs, ht⟩)
      · rw [announce_uport, Bool.or_eq_true] at hn
        exact hn.imp he.notice hlive.2
      · rw [announce_events]
        exact he.events.monotone henable hclear

end Sys2Proof.Machine
end

section
/-! PROOFS. A step and one millisecond, the power-on reset, the edges of both lines, and the transmitter. -/
namespace Sys2Proof.Machine

/-! ## One millisecond (log entry 1) -/

/-- Settles O1: a step with a command waiting is that command run. -/
theorem stepRunsFrontCommand : Obligations.StepRunsFrontCommand := fun s c rest h => by
  simp only [step, h]

theorem step_of_no_pending {s : State} (h : s.pending = []) : step s = .next s.tick := by
  simp only [step, h]

theorem LineState.tick_mark (idle : Nat) : (LineState.mark idle).tick = .mark (idle + 24000) := rfl

theorem LineState.tick_of_not_mark {l : LineState} (h : ∀ idle, l ≠ .mark idle) : l.tick = l := by
  cases l with
  | mark idle => exact absurd rfl (h idle)
  | space | held | broken | unseen => rfl

theorem Entry.tick_parked {e : Entry} {timer : Nat} (h : e.state = .parked timer) :
    e.tick = { e with state := .parked (timer - 1) } := by
  simp only [Entry.tick, h]

theorem Entry.tick_of_not_parked {e : Entry} (h : e.state.isParked = false) : e.tick = e := by
  unfold Entry.tick
  split
  next hp => simp [EntryState.isParked, hp] at h
  all_goals rfl

theorem DomState.tick_of_no_timer {x : DomState}
    (h : ∀ n, x ≠ .cooldown n ∧ x ≠ .settling n ∧ x ≠ .warning n ∧ x ≠ .on (some n)) : x.tick = x := by
  cases x with
  | cooldown n => exact absurd rfl (h n).1
  | settling n => exact absurd rfl (h n).2.1
  | warning n => exact absurd rfl (h n).2.2.1
  | on t =>
    cases t with
    | none => rfl
    | some n => exact absurd rfl (h n).2.2.2
  | off | checking _ _ | restoring _ _ | draining | fault => rfl

theorem State.tick_touches (s : State) : Frame [.uport, .entries, .domains, .pg, .sport, .events] s s.tick := by
  intro b hb
  cases b <;> simp_all [State.agrees]

/-- Settles O2: the step is `State.tick`, read block by block and timer by timer. -/
theorem idleStepPassesOneMillisecond : Obligations.IdleStepPassesOneMillisecond := fun s h => by
  refine ⟨s.tick, step_of_no_pending h, s.tick_touches, ⟨s.uport.line.tick, _, rfl, ?_, ?_, rfl⟩,
    ⟨s.sport.line.tick, rfl, ?_, ?_⟩, by simp, ?entries, ?domains, fun i => get_tabulate _ i, rfl, rfl,
    fun i => get_tabulate _ i⟩
  · exact fun idle hl => by rw [hl, LineState.tick_mark]
  · exact LineState.tick_of_not_mark
  · exact fun idle hl => by rw [hl, LineState.tick_mark]
  · exact LineState.tick_of_not_mark
  case entries =>
    intro i e he
    have hi : s.tick.entries[i]? = some e.tick := by simp [he]
    exact ⟨fun timer hp => by rw [hi, Entry.tick_parked hp], fun hp => by rw [hi, Entry.tick_of_not_parked hp]⟩
  case domains =>
    intro d
    rw [State.dom_tick]
    exact ⟨rfl, fun n hn => by simp only [hn]; rfl, fun n hn => by simp only [hn]; rfl,
      fun n hn => by simp only [hn]; rfl, fun n hn => by simp only [hn]; rfl, DomState.tick_of_no_timer⟩

/-! ## The transmitter (R28 to R31) -/

section Choice
variable {u : State}

theorem State.transmitterChoice_sendsRefusal {r : SlotRefusal} (h : u.uport.tx = none) (hr : u.uport.slot = some r) :
    u.transmitterChoice = u.send .refusal (refusalFrame r) := by
  simp only [State.transmitterChoice, h, hr]

theorem State.transmitterChoice_sendsNotice (h : u.uport.tx = none) (hslot : u.uport.slot = none)
    (hnotice : u.uport.noticePending = true) :
    u.transmitterChoice
      = (u.withUport { u.uport with noticePending := false }).send .notice (noticeFrame u.events.live) := by
  simp only [State.transmitterChoice, h, hslot, hnotice, if_true]

theorem State.transmitterChoice_sendsNothing (h : u.uport.tx = none) (hslot : u.uport.slot = none)
    (hnotice : u.uport.noticePending = false) (hq : u.replyQueue = []) : u.transmitterChoice = u := by
  simp [State.transmitterChoice, h, hslot, hnotice, hq]

theorem State.transmitterChoice_sendsReply {tag : Byte} {rest frame : List Byte} (h : u.uport.tx = none)
    (hslot : u.uport.slot = none) (hnotice : u.uport.noticePending = false) (hq : u.replyQueue = tag :: rest)
    (hreply : (u.entry? tag).bind Entry.reply = some frame) :
    u.transmitterChoice = (u.withReplyQueue rest).send (.reply tag) frame := by
  simp [State.transmitterChoice, h, hslot, hnotice, hq, hreply]

/-- Where the transmitter is FREE its choice is the one of R28. -/
theorem chosen_transmitterChoice (h : u.uport.tx = none) : Chosen u u.transmitterChoice := by
  refine ⟨fun r hr => State.transmitterChoice_sendsRefusal h hr,
    fun hslot hnotice => State.transmitterChoice_sendsNotice h hslot hnotice,
    fun hslot hnotice hq => State.transmitterChoice_sendsNothing h hslot hnotice hq,
    fun e status reply rest hslot hnotice hq hfind hdone => State.transmitterChoice_sendsReply h hslot hnotice hq ?_⟩
  rw [hfind, Option.bind_some, Entry.reply, hdone]

end Choice

theorem State.transmitterChoice_busy {s : State} (h : s.uport.tx ≠ none) : s.transmitterChoice = s := by
  unfold State.transmitterChoice
  split
  · rfl
  · contradiction

/-- A choice touches no event, so its event announces nothing. -/
theorem finishEvent_transmitterChoice {s u : State} (h : u.events = s.events) :
    finishEvent s u.transmitterChoice = .next u.transmitterChoice :=
  finishEvent_same _ _ (by simpa using h)

/-- Settles O14: `chosen_transmitterChoice`, and a frame in progress is not interrupted. -/
theorem transmitterChoosesByPriority : Obligations.TransmitterChoosesByPriority := fun s =>
  ⟨fun h => ⟨_, finishEvent_transmitterChoice rfl, chosen_transmitterChoice h⟩,
    fun h => (finishEvent_transmitterChoice rfl).trans (by rw [State.transmitterChoice_busy h])⟩

theorem UPort.sending_eq_some_iff (u : UPort) (source : TxSource) :
    u.sending = some source ↔ ∃ f, u.tx = some f ∧ f.source = source := by
  simp [UPort.sending]

theorem exec_refusalSent_sending {s : State} (h : s.uport.sending = some .refusal) :
    exec .refusalSent s = .next (s.withUport
      { s.uport with tx := none, slot := none, counters := s.uport.counters.addReply }).transmitterChoice :=
  (congrArg (finishEvent s) (if_pos h)).trans (finishEvent_transmitterChoice rfl)

theorem exec_noticeSent_sending {s : State} (h : s.uport.sending = some .notice) :
    exec .noticeSent s = .next (s.withUport
      { s.uport with tx := none, counters := s.uport.counters.addNotice }).transmitterChoice :=
  (congrArg (finishEvent s) (if_pos h)).trans (finishEvent_transmitterChoice rfl)

/-- The state a sent reply leaves for the next choice (R9, R30). -/
def State.replyFreed (s : State) (tag : Byte) : State :=
  (s.withUport (UPort.takeUpAfter { s.uport with tx := none, counters := s.uport.counters.addReply } tag)).freeEntry tag

theorem exec_replySent_sending {s : State} {tag : Byte} (h : s.uport.sending = some (.reply tag)) :
    exec .replySent s = .next (s.replyFreed tag).transmitterChoice := by
  show execReplySent s = _
  simp only [execReplySent, h]
  exact finishEvent_transmitterChoice rfl

theorem UPort.takeUpAfter_tx (u : UPort) (tag : Byte) : (u.takeUpAfter tag).tx = u.tx := by
  obtain ⟨p, -, h⟩ | h := u.takeUpAfter_cases tag <;> rw [h]

theorem State.replyFreed_tx (s : State) (tag : Byte) : (s.replyFreed tag).uport.tx = none := UPort.takeUpAfter_tx _ _

/-- Settles O15: each end of a frame leaves a FREE transmitter, which chooses. -/
theorem endOfAFrameFreesAndChooses : Obligations.EndOfAFrameFreesAndChooses := fun s => by
  refine ⟨s.uport.sending_eq_some_iff, fun h => ⟨_, exec_refusalSent_sending h, chosen_transmitterChoice rfl⟩,
    fun tag h => ⟨_, exec_replySent_sending h, ?_⟩,
    fun h => ⟨_, exec_noticeSent_sending h, chosen_transmitterChoice rfl⟩⟩
  have hchosen := chosen_transmitterChoice (s.replyFreed_tx tag)
  cases hp : s.uport.pendingFormat with
  | none =>
    simp only [State.replyFreed, UPort.takeUpAfter, hp] at hchosen ⊢
    exact hchosen
  | some p =>
    by_cases htag : p.tag = tag
    · simp only [State.replyFreed, UPort.takeUpAfter, hp, htag, if_true] at hchosen ⊢
      exact hchosen
    · simp only [State.replyFreed, UPort.takeUpAfter, hp, htag, if_false] at hchosen ⊢
      exact hchosen

/-! ## Power-on reset -/

theorem exec_powerOnReset (pins : ResetPins) (s : State) :
    exec (.powerOnReset pins) s = .next (State.powerOn pins s.pending) := rfl

section PowerOn
variable (pins : ResetPins) (waiting : List Instr)

theorem State.inputs_powerOn (i : Fin 4) :
    (State.powerOn pins waiting).pg.get i = .atReset (pins.pg.get i)
      ∧ (State.powerOn pins waiting).events.inputs.get i = ⟨.powerOn, .atReset (pins.ev.get i), false⟩ :=
  match i with
  | 0 | 1 | 2 | 3 => ⟨rfl, rfl⟩

theorem State.mgmtAddress_powerOn :
    (State.powerOn pins waiting).mgmtAddress.toNat = 0x7C + 2 * pins.ma1.toNat + pins.ma0.toNat := by
  show (0x7C + (BitVec.ofBool pins.ma1 ++ BitVec.ofBool pins.ma0).setWidth 8 : Byte).toNat = _
  cases pins.ma1 <;> cases pins.ma0 <;> rfl

theorem powerUp_only (c : EventClass) : EventSet.has 1 c = (c == .powerUp) := by
  cases c <;> decide

theorem noticeFrame_powerUp : noticeFrame (1 &&& 1) = [0xD6, 0x00, 0x01, 0xFF] := by decide

theorem State.alert_powerOn : (State.powerOn pins waiting).alert = true := by
  show ((1 &&& 1 : EventSet) != 0) = true
  decide

/-- The first frame after a reset is the NOTICE of POWER_UP (R159). -/
theorem exec_transmitterChoice_powerOn :
    exec .transmitterChoice (State.powerOn pins waiting) =
      .next ((State.powerOn pins waiting).withUport
        { (State.powerOn pins waiting).uport with
          noticePending := false
          tx := some { source := .notice, frame := [0xD6, 0x00, 0x01, 0xFF], elapsed := 0 } }) := by
  obtain ⟨-, hnotice, -⟩ := chosen_transmitterChoice (u := State.powerOn pins waiting) rfl
  have hframe : noticeFrame (State.powerOn pins waiting).events.live = [0xD6, 0x00, 0x01, 0xFF] :=
    noticeFrame_powerUp
  rw [← hframe, ← hnotice rfl rfl]
  exact finishEvent_transmitterChoice rfl

end PowerOn

/-- Settles O4: what the command leaves is `State.powerOn`, read block by block. -/
theorem powerOnResetSetsEveryBlock : Obligations.PowerOnResetSetsEveryBlock := fun pins s => by
  refine ⟨_, exec_powerOnReset pins s, rfl, ?uport, rfl, rfl, rfl, fun i => ⟨get_replicate _ i, get_replicate _ i⟩,
    ?domains, rfl, rfl, State.inputs_powerOn pins _, ?sport, fun c => ⟨powerUp_only c, powerUp_only c⟩,
    State.alert_powerOn pins _, State.alert_powerOn pins _, fun _ => ⟨rfl, fun d => get_replicate _ d, rfl, rfl⟩,
    State.mgmtAddress_powerOn pins _,
    exec_transmitterChoice_powerOn pins _⟩
  case uport =>
    cases hurx : pins.urx <;> simp only [State.powerOn, hurx] <;> rfl
  case sport =>
    cases hsdl : pins.sdl <;> simp only [State.powerOn, hsdl] <;> rfl
  case domains =>
    intro d
    have hdom := State.dom_powerOn pins s.pending d
    refine ⟨hdom, ?_, State.list_powerOn pins _ d, get_replicate _ d, get_replicate _ d⟩
    rw [State.powerLine, hdom]
    rfl

/-! ## Edges and idle periods (section 1.3) -/

theorem LineState.isIdle_iff (l : LineState) : l.isIdle = true ↔ ∃ idle, l = .mark idle := by
  cases l <;> simp [LineState.isIdle]

theorem LineState.takesCharacter_iff (l : LineState) :
    l.takesCharacter = true ↔ (∃ idle, l = .mark idle) ∨ l = .space := by
  cases l <;> simp [LineState.takesCharacter]

theorem exec_startEdge_sdl (s : State) :
    exec (.startEdge .sdl) s = .next (s.withSport { s.sport with line := s.sport.line.startEdge }) :=
  finishEvent_same _ _ rfl

theorem exec_returnToMark_urx (s : State) :
    exec (.returnToMark .urx) s = .next (s.withUport { s.uport with line := s.uport.line.returnToMark }) :=
  finishEvent_same _ _ rfl

theorem exec_returnToMark_sdl (s : State) :
    exec (.returnToMark .sdl) s = .next (s.withSport { s.sport with line := s.sport.line.returnToMark }) :=
  finishEvent_same _ _ rfl

theorem State.withUport_line_self {s : State} {l : LineState} (h : l = s.uport.line) :
    s.withUport { s.uport with line := l } = s := by
  subst h
  rfl

theorem State.withSport_line_self {s : State} {l : LineState} (h : l = s.sport.line) :
    s.withSport { s.sport with line := l } = s := by
  subst h
  rfl

/-- A line away from mark and not broken stays under a start edge, and its return to mark begins an idle period. -/
theorem LineState.away_edges {l : LineState} (h : l = .space ∨ l = .held ∨ l = .unseen) :
    l.returnToMark = .mark 0 ∧ l.startEdge = l := by
  obtain rfl | rfl | rfl := h <;> exact ⟨rfl, rfl⟩

theorem LineState.mark_edges {l : LineState} {idle : Nat} (h : l = .mark idle) :
    l.startEdge = .space ∧ l.returnToMark = l := by
  subst h
  exact ⟨rfl, rfl⟩

/-- Settles O11: the two edges, on a line at mark and on a line away from it. -/
theorem edgesEndAndBeginIdlePeriods : Obligations.EdgesEndAndBeginIdlePeriods := by
  refine ⟨fun line => ⟨line.isIdle_iff, line.takesCharacter_iff⟩, rfl, fun s =>
    ⟨fun idle h => ?_, fun idle h => ?_, fun h => ?_, fun h => ?_⟩⟩
  · obtain ⟨hstart, hreturn⟩ := LineState.mark_edges h
    rw [exec_startEdge_urx, exec_returnToMark_urx, hstart, State.withUport_line_self hreturn]
    exact ⟨rfl, rfl⟩
  · obtain ⟨hstart, hreturn⟩ := LineState.mark_edges h
    rw [exec_startEdge_sdl, exec_returnToMark_sdl, hstart, State.withSport_line_self hreturn]
    exact ⟨rfl, rfl⟩
  · obtain ⟨hreturn, hstart⟩ := LineState.away_edges h
    rw [exec_startEdge_urx, exec_returnToMark_urx, hreturn, State.withUport_line_self hstart]
    exact ⟨rfl, rfl⟩
  · obtain ⟨hreturn, hstart⟩ := LineState.away_edges h
    rw [exec_startEdge_sdl, exec_returnToMark_sdl, hreturn, State.withSport_line_self hstart]
    exact ⟨rfl, rfl⟩

end Sys2Proof.Machine
end

section
/-! PROOFS. A break: what it clears of the U-port, and what it makes of the entries and the domains (R5, R8, R32 to
R34). -/
namespace Sys2Proof.Machine

/-! ## The line held at space (R5, R8) -/

/-- A framing error leaves the receiver's line as the character left it. -/
theorem State.receive_framing_line (s : State) (data : Byte) (level : Level) :
    (s.receive data (.framing level)).uport.line = s.uport.line := by
  by_cases hf : s.uport.rx.inFrame = true
  · rw [State.receive_inFrame_framing data level hf]
    rfl
  · cases hrx : s.uport.rx with
    | hunt =>
      rw [State.receive_hunt _ _ hrx, State.huntCharacter_stray (by simp)]
      rfl
    | discard => rw [State.receive_discard _ _ hrx]
    | header | payload | check => simp [RxState.inFrame, hrx] at hf

theorem exec_urxCharacter_framingSpace {s : State} (data : Byte) (hl : s.uport.line.takesCharacter = true) :
    ∃ t, exec (.urxCharacterReceived data (.framing .space)) s = .next t ∧ t.uport.line = .held := by
  refine ⟨_, exec_urxCharacter_taken data _ hl, ?_⟩
  rw [announce_uport]
  exact (State.receive_framing_line _ data .space).trans rfl

theorem exec_upstreamBreak_notHeld {s : State} (hl : s.uport.line ≠ .held) : exec .upstreamBreak s = .next s := by
  have hno : ¬s.uport.line.breakMayCome = true := by
    cases h : s.uport.line <;> simp_all [LineState.breakMayCome]
  exact (congrArg (finishEvent s) (if_neg hno)).trans (finishEvent_self s)

/-- A line on SDL that takes no character gives none to an answer (R5). -/
theorem exec_answerCharacter_notTaken {s : State} (data : Byte) (mark : CharMark)
    (hl : s.sport.line.takesCharacter = false) : exec (.answerCharacterReceived data mark) s = .next s := by
  show execAnswerCharacterReceived data mark s = _
  unfold execAnswerCharacterReceived
  split
  · rw [hl]
    exact finishEvent_self s
  · exact finishEvent_self s

theorem exec_answerCharacterStart_notTaken {s : State} (hl : s.sport.line.takesCharacter = false) :
    exec .answerCharacterStart s = .next s := by
  show execAnswerCharacterStart s = _
  unfold execAnswerCharacterStart
  split
  · rw [hl]
    exact finishEvent_self s
  · exact finishEvent_self s

/-! ## The drains of a break (R34, R52) -/

/-- A break but for the drains it completes. -/
def State.entriesDiscarded (s : State) : State :=
  ((((s.withUport s.uport.takeBreak).raise .linkError).withEntries []).withReplyQueue []).withSport s.sport.orphan

theorem State.takeBreak_eq (s : State) : s.takeBreak = s.entriesDiscarded.drainAll := rfl

/-- The work a break leaves in progress is the same before its drains and after them. -/
theorem noWork_takeBreak (s : State) (d : DomainId) : NoWork s.takeBreak d ↔ NoWork s.entriesDiscarded d :=
  noWork_congr d (by simp [State.entriesDiscarded]) (by simp [State.entriesDiscarded])

theorem drains_takeBreak (s : State) (d : DomainId) :
    Drains s s.takeBreak d ↔ (s.entriesDiscarded.dom d).state = .draining ∧ NoWork s.entriesDiscarded d :=
  and_congr_right fun _ => noWork_takeBreak s d

theorem State.dom_takeBreak (s : State) (d : DomainId) :
    (Drains s s.takeBreak d → s.takeBreak.dom d = (s.dom d).cooled)
      ∧ (¬Drains s s.takeBreak d → s.takeBreak.dom d = s.dom d) := by
  rw [drains_takeBreak]
  exact s.entriesDiscarded.dom_drainAll d

/-- The classes of a break: LINK_ERROR, and DOMAIN_DOWN where it completes a drain (R33, R83). -/
theorem State.takeBreak_status (s : State) (c : EventClass) :
    s.takeBreak.events.status.has c = true ↔
      (s.events.status.has c = true ∨ c = .linkError ∨ (c = .domainDown ∧ ∃ d, Drains s s.takeBreak d)) := by
  have hstatus : s.takeBreak.events.status.has c =
      (s.entriesDiscarded.events.status.has c
        || (c == .domainDown
          && allDomains.any fun d =>
            (s.entriesDiscarded.dom d).state.isDraining && s.entriesDiscarded.workEmpty d)) := by
    rw [State.takeBreak_eq, State.drainAll, drains_status _ allDomains_nodup]
  have hraised : s.entriesDiscarded.events.status.has c = (s.events.status.has c || c == .linkError) :=
    raise_has s .linkError c
  rw [hstatus, hraised]
  simp only [Bool.or_eq_true, Bool.and_eq_true, beq_iff_eq, List.any_eq_true, mem_allDomains, true_and, or_assoc,
    isDraining_iff, workEmpty_iff, drains_takeBreak]

/-- What a break leaves of the U-port, before notice-pending is judged over the event (R33). -/
theorem UPort.takeBreak_eq (u : UPort) :
    u.takeBreak =
      { u with
        line := .broken, rx := .hunt, asm := .empty, tx := none, slot := none, noticePending := false
        inUse := (u.pendingFormat.map (·.format)).getD u.inUse
        pendingFormat := none
        counters := { u.counters with breaks := satInc u.counters.breaks } } := by
  cases hp : u.pendingFormat <;>
    simp only [UPort.takeBreak, UPort.takeUpAtBreak, UPort.toState, UCounters.addBreak, hp] <;> rfl

/-- A character in a space whose break has been taken is not taken either. -/
theorem LineState.broken_takes_nothing {l : LineState} (h : l = .broken) :
    l.takesCharacter = false ∧ l ≠ .held := by
  subst h
  exact ⟨rfl, by simp⟩

theorem LineState.held_takes_nothing {l : LineState} (h : l = .held) : l.takesCharacter = false := by
  subst h
  rfl

/-- Settles O12: where a break may come, what it leaves of the U-port, and its end. -/
theorem breakClearsTheUport : Obligations.BreakClearsTheUport := by
  refine ⟨fun s data hl => exec_urxCharacter_framingSpace data hl, fun s hl => exec_upstreamBreak_notHeld hl,
    fun s data mark => ⟨fun hl => exec_urxCharacter_notTaken data mark (LineState.held_takes_nothing hl),
      fun hl => ⟨exec_answerCharacter_notTaken data mark (LineState.held_takes_nothing hl),
        exec_answerCharacterStart_notTaken (LineState.held_takes_nothing hl)⟩⟩,
    fun s hl => ⟨_, exec_upstreamBreak_held hl, ?uport, ?_, by simp, fun c hlink hdown => ?_, ?_⟩,
    fun s hl => ?broken⟩
  case uport =>
    rw [announce_uport, State.takeBreak_uport, UPort.takeBreak_eq]
    cases hp : s.uport.pendingFormat <;> simp [Assembly.empty]
  case broken =>
    obtain ⟨htakes, hheld⟩ := LineState.broken_takes_nothing hl
    exact ⟨exec_breakEnd_broken hl, exec_upstreamBreak_notHeld hheld,
      fun data mark => exec_urxCharacter_notTaken data mark htakes⟩
  · rw [announce_events, State.takeBreak_status]
    exact .inr (.inl rfl)
  · rw [Bool.eq_iff_iff, announce_events, State.takeBreak_status]
    simp [hlink, hdown]
  · obtain ⟨hsetting, hinUse, -⟩ := s.sport.orphan_settings
    simp [hsetting, hinUse]

/-! ## The entries of a break (R34, R140) -/

theorem SPort.orphan_entry {p : SPort} {a : Attempt} {tag : Byte} (ha : p.attempt = some a)
    (ho : a.exchange.originator = .entry tag) :
    p.orphan = { p with attempt := some { a with exchange := { a.exchange with originator := .orphan } } } := by
  simp only [SPort.orphan, ha, ho]

theorem SPort.orphan_notEntry {p : SPort} (h : ∀ a, p.attempt = some a → ∀ tag, a.exchange.originator ≠ .entry tag) :
    p.orphan = p := by
  unfold SPort.orphan
  split
  next a ha =>
    split
    next tag ho => exact absurd ho (h a ha tag)
    all_goals rfl
  next => rfl

theorem State.takeBreak_touches (s : State) :
    Frame [.uport, .entries, .replyQueue, .sport, .domains, .events] s s.takeBreak := by
  intro b hb
  cases b <;> simp_all [State.agrees]

/-- Settles O13: `State.takeBreak`, block by block. -/
theorem breakDiscardsEveryEntry : Obligations.BreakDiscardsEveryEntry := fun s hl => by
  refine ⟨_, exec_upstreamBreak_held hl, by simp, by simp, frame_announce _ _ _ (by simp) s.takeBreak_touches, by simp,
    fun a tag ha ho => ?_, fun hno => ?_, fun d => ?_, fun c => ?_⟩
  · simpa using SPort.orphan_entry ha ho
  · simpa using SPort.orphan_notEntry hno
  · rw [drains_announce, dom_announce]
    exact s.dom_takeBreak d
  · simp only [drains_announce, announce_events]
    exact s.takeBreak_status c

end Sys2Proof.Machine
end

section
/-! PROOFS. What is written is read back: characters and frames (R1 to R16), and record images (R2, R75, R164 to
R170). -/
namespace Sys2Proof.Machine

/-! ## Characters (R1 to R5) -/

theorem dataBits_eq (b : Byte) :
    (dataBits b).map levelOf = (List.range 8).map fun k => if b.getLsbD k then .mark else .space := rfl

theorem length_dataBits (b : Byte) : (dataBits b).length = 8 := rfl

theorem bitOf_levelOf (bit : Bool) : bitOf (levelOf bit) = bit := by
  cases bit <;> rfl

theorem levelOf_bitOf (l : Level) : levelOf (bitOf l) = l := by
  cases l <;> rfl

theorem map_bitOf_map_levelOf (bits : List Bool) : (bits.map levelOf).map bitOf = bits := by
  simp [Function.comp_def, bitOf_levelOf]

/-- The eight data bits, least significant first, are the character. -/
theorem byteOfBits_dataBits (b : Byte) : byteOfBits (dataBits b) = b := by
  apply BitVec.eq_of_getLsbD_eq
  intro i hi
  have hcases : i = 0 ∨ i = 1 ∨ i = 2 ∨ i = 3 ∨ i = 4 ∨ i = 5 ∨ i = 6 ∨ i = 7 := by omega
  obtain rfl | rfl | rfl | rfl | rfl | rfl | rfl | rfl := hcases <;> simp [byteOfBits, dataBits]

theorem oddOnes_append (l l' : List Bool) : oddOnes (l ++ l') = (oddOnes l ^^ oddOnes l') := by
  induction l with
  | nil => simp [oddOnes]
  | cons b l ih => rw [List.cons_append, oddOnes, oddOnes, ih, Bool.xor_assoc]

/-- The parity of a list of levels is that of its count of marks. -/
theorem oddOnes_map_bitOf (l : List Level) : oddOnes (l.map bitOf) = decide (l.count .mark % 2 = 1) := by
  induction l with
  | nil => rfl
  | cons a l ih =>
    rw [List.map_cons, oddOnes, ih, List.count_cons]
    cases a with
    | mark =>
      have := Nat.mod_two_eq_zero_or_one (l.count .mark)
      rw [Bool.eq_iff_iff]
      simp only [bitOf, Bool.true_xor, Bool.not_eq_true', decide_eq_false_iff_not, decide_eq_true_eq, beq_self_eq_true,
        if_true]
      omega
    | space => simp [bitOf]

theorem all_bitOf_iff (l : List Level) : (l.map bitOf).all id = true ↔ .space ∉ l := by
  induction l with
  | nil => simp
  | cons a l ih => cases a <;> simp_all [bitOf]

/-- Samples that carry the data bits of a character, then parity bits and stop bits, judged (R4, R5). -/
theorem judgeSamples_of_bits {f : Format} {b : Byte} {samples : List Level} {parity stops : List Bool}
    (hbits : samples.map bitOf = dataBits b ++ (parity ++ stops))
    (hp : parity.length = (parityBits f.parity b).length) :
    judgeSamples f samples =
      if stops.all id then if parity = parityBits f.parity b then (b, .good) else (b, .parity)
      else (b, .framing (levelOf (stops.getLast?.getD false))) := by
  have htake : (dataBits b ++ (parity ++ stops)).take 8 = dataBits b := List.take_left' (length_dataBits b)
  have hdrop : (dataBits b ++ (parity ++ stops)).drop 8 = parity ++ stops := List.drop_left' (length_dataBits b)
  simp only [judgeSamples, hbits, htake, hdrop, byteOfBits_dataBits]
  cases hf : f.parity with
  | none =>
    rw [hf] at hp
    rw [List.length_eq_zero_iff.1 hp]
    rfl
  | even | odd =>
    rw [hf] at hp
    obtain ⟨x, rfl⟩ := List.length_eq_one_iff.1 hp
    rfl

theorem levelOf_getLast (stops : List Level) :
    levelOf ((stops.map bitOf).getLast?.getD false) = stops.getLast?.getD .space := by
  rw [List.getLast?_map]
  cases stops.getLast? with
  | none => rfl
  | some l => exact levelOf_bitOf l

/-- Samples of a character, its parity samples and its stop samples, judged (R4, R5). -/
theorem judgeSamples_eq {f : Format} {b : Byte} {parity stops : List Level}
    (hp : parity.length = (parityBits f.parity b).length) :
    judgeSamples f ((dataBits b).map levelOf ++ parity ++ stops) =
      if .space ∈ stops then (b, .framing (stops.getLast?.getD .space))
      else if parity.map bitOf = parityBits f.parity b then (b, .good) else (b, .parity) := by
  have hbits : ((dataBits b).map levelOf ++ parity ++ stops).map bitOf
      = dataBits b ++ (parity.map bitOf ++ stops.map bitOf) := by
    rw [List.map_append, List.map_append, map_bitOf_map_levelOf, List.append_assoc]
  rw [judgeSamples_of_bits hbits (by rw [List.length_map, hp]), levelOf_getLast]
  by_cases hs : Level.space ∈ stops
  · rw [if_pos hs, if_neg (by rwa [all_bitOf_iff, not_not])]
  · rw [if_neg hs, if_pos ((all_bitOf_iff stops).2 hs)]

theorem space_notMem_stopBits (x : StopBits) : Level.space ∉ (stopBits x).map levelOf := by
  cases x <;> decide

/-- A character sent is read as it was sent (R1, R5). -/
theorem judgeSamples_characterLevels (f : Format) (b : Byte) :
    judgeSamples f (characterLevels f b).tail = (b, .good) := by
  have hlevels : (characterLevels f b).tail =
      (dataBits b).map levelOf ++ (parityBits f.parity b).map levelOf ++ (stopBits f.stop).map levelOf := by
    simp [characterLevels]
  rw [hlevels, judgeSamples_eq (by simp), if_neg (space_notMem_stopBits f.stop), map_bitOf_map_levelOf, if_pos rfl]

/-- The parity bits of a character are the parity sampled exactly where the count of ones suits the format (R1). -/
theorem parityBits_eq_iff {f : Format} {b : Byte} {parity : List Level}
    (hp : parity.length = (parityBits f.parity b).length) :
    parity.map bitOf = parityBits f.parity b ↔
      f.parity = .none
        ∨ (f.parity = .even ∧ (((dataBits b).map levelOf ++ parity).count .mark) % 2 = 0)
        ∨ (f.parity = .odd ∧ (((dataBits b).map levelOf ++ parity).count .mark) % 2 = 1) := by
  have hodd := oddOnes_map_bitOf ((dataBits b).map levelOf ++ parity)
  rw [List.map_append, map_bitOf_map_levelOf, oddOnes_append] at hodd
  have hmod := Nat.mod_two_eq_zero_or_one (((dataBits b).map levelOf ++ parity).count .mark)
  cases hf : f.parity with
  | none =>
    rw [hf] at hp
    rw [List.length_eq_zero_iff.1 hp]
    simp [parityBits]
  | even | odd =>
    rw [hf] at hp
    obtain ⟨p, rfl⟩ := List.length_eq_one_iff.1 hp
    simp only [List.map_cons, List.map_nil, oddOnes, Bool.xor_false] at hodd
    obtain h | h := hmod <;> simp only [h] at hodd ⊢ <;>
      cases hb : oddOnes (dataBits b) <;> cases hpb : bitOf p <;> simp_all [parityBits]

theorem charCycles_eq (f : Format) (n : Nat) : f.charCycles n = n * f.charBits * (16 * (f.divisor.toNat + 1)) := rfl

theorem length_characterLevels (f : Format) (b : Byte) : (characterLevels f b).length = f.charBits := by
  simp only [characterLevels, Format.charBits]
  cases f.parity <;> cases f.stop <;> rfl

/-! ## Frames (R10 to R16) -/

theorem checkSum_eq_sum (l : List Byte) : checkSum l = BitVec.ofNat 8 (l.map BitVec.toNat).sum := by
  induction l with
  | nil => rfl
  | cons b l ih => simp [checkSum, ih, BitVec.ofNat_add]

theorem checkValid_cons_iff (lead : Byte) (body : List Byte) :
    checkValid (lead :: body) = true ↔ checkSum body = 0 := by
  simp [checkValid]

theorem checkValid_makeFrame (lead : Byte) (body : List Byte) : checkValid (makeFrame lead body) = true := by
  rw [makeFrame, checkValid_cons_iff, checkSum_append, checkSum_singleton]
  exact add_sub_cancel _ _

theorem hiByte_eq (h : Half) : hiByte h = BitVec.ofNat 8 (h.toNat / 256) := by
  apply BitVec.eq_of_toNat_eq
  simp [hiByte, Nat.shiftRight_eq_div_pow]

theorem loByte_eq (h : Half) : loByte h = BitVec.ofNat 8 (h.toNat % 256) := by
  apply BitVec.eq_of_toNat_eq
  simp [loByte]

theorem segmentFrame_eq (c : Command) :
    segmentFrame c = makeFrame 0xB4
      ([c.op, c.target, BitVec.ofNat 8 (c.location.toNat / 256), BitVec.ofNat 8 (c.location.toNat % 256), c.length]
        ++ (if c.op = 0x02 then c.payload else [])) := by
  rw [segmentFrame, hiByte_eq, loByte_eq]
  rfl

theorem noticeFrame_eq (e : EventSet) :
    noticeFrame e = [0xD6, eventHigh e, eventLow e, 0 - (eventHigh e + eventLow e)] := by
  simp [noticeFrame, makeFrame, leadNotice, checkSum]

theorem refusalFrame_eq (r : SlotRefusal) :
    refusalFrame r = [0xD3, r.tag, r.cause.status.code, 0, 0 - (r.tag + r.cause.status.code)] := by
  simp [refusalFrame, replyFrame, makeFrame, leadReply, checkSum]

theorem eventHigh_top (e : EventSet) : (eventHigh e).getLsbD 7 = false := by
  simp [eventHigh]

theorem charactersName_event (e : EventSet) (c : EventClass) :
    charactersName (eventHigh e) (eventLow e) c = e.has c := by
  cases c <;> simp [charactersName, eventHigh, eventLow, EventSet.has, EventClass.number]

/-- Settles O16, statement by statement. -/
theorem charactersAndFramesReadBack : Obligations.CharactersAndFramesReadBack := by
  refine ⟨fun f n => ?cycles, fun f b => ⟨judgeSamples_characterLevels f b, rfl, ?_⟩,
    fun f b parity stops hp _ => ?judged,
    checkSum_eq_sum, fun lead body => ⟨checkValid_makeFrame lead body, checkValid_cons_iff lead body⟩, rfl, ⟨rfl, rfl⟩,
    rfl, fun e c k => ⟨rfl, ?_⟩, segmentFrame_eq,
    fun e => ⟨noticeFrame_eq e, eventHigh_top e, charactersName_event e⟩, fun _ _ _ _ => rfl, refusalFrame_eq⟩
  case cycles =>
    rw [charCycles_eq]
    cases hp : f.parity <;> cases hs : f.stop <;> simp [Format.charBits, hp, hs]
  · rw [length_characterLevels, charCycles_eq, Nat.one_mul]
  case judged =>
    have hparity : parity.length = (parityBits f.parity b).length := by
      rw [hp]
      cases f.parity <;> rfl
    have hjudge := judgeSamples_eq (stops := stops) hparity
    have hiff := parityBits_eq_iff hparity
    rw [dataBits_eq] at hjudge hiff
    refine ⟨fun hs last hlast => ?_, fun hs hodd => ?_, fun hs hsuits => ?_⟩
    · rw [hjudge, if_pos hs, hlast]
      rfl
    · rw [hjudge, if_neg hs, if_neg]
      rw [hiff]
      obtain ⟨hf, h1⟩ | ⟨hf, h0⟩ := hodd
      · simp only [hf, h1]
        decide
      · simp only [hf, h0]
        decide
    · rw [hjudge, if_neg hs, if_pos (hiff.2 hsuits)]
  · rw [has_or_bit, Bool.or_eq_true, beq_iff_eq]

/-! ## Record images (R2, R75, R155, R164 to R170) -/

theorem byteBool_boolByte (b : Bool) : byteBool (boolByte b) = some b := by
  cases b <;> rfl

theorem setWidth_divisor (d : BitVec 12) :
    (joinBytes (hiByte (d.setWidth 16)) (loByte (d.setWidth 16))).toNat = d.toNat := by
  rw [joinBytes_hi_lo, BitVec.toNat_setWidth]
  exact Nat.mod_eq_of_lt (by omega)

theorem Format.ofImage_image {f : Format} (h : f.divisor ≠ 0) : Format.ofImage f.image = some f := by
  obtain ⟨parity, stop, divisor⟩ := f
  have hpos : 1 ≤ divisor.toNat := Nat.one_le_iff_ne_zero.2 fun h0 => h (BitVec.eq_of_toNat_eq h0)
  have hle : divisor.toNat ≤ 4095 := by omega
  have hback : (divisor.setWidth 16).setWidth 12 = divisor := by
    apply BitVec.eq_of_toNat_eq
    simp
  have hcode := setWidth_divisor divisor
  cases parity <;> cases stop <;> simp [Format.ofImage, Format.image, joinBytes_hi_lo, hback] <;> omega

theorem ExtConfig.ofImage_image (c : ExtConfig) : ExtConfig.ofImage c.image = some c := by
  obtain ⟨edge, raise, activity, wake⟩ := c
  cases edge <;> cases raise <;> rfl

theorem eventSetOf_characters (e : EventSet) : eventSetOf (eventHigh e) (eventLow e) = e := by
  apply BitVec.eq_of_getLsbD_eq
  intro i hi
  simp only [eventSetOf, joinBytes, eventHigh, eventLow, BitVec.getLsbD_setWidth, BitVec.getLsbD_append,
    BitVec.getLsbD_ushiftRight]
  by_cases h8 : i < 8
  · simp [h8, hi]
  · have hpast : 8 + (i - 8) = i := by omega
    have hlow : i - 8 < 8 := by omega
    simp [h8, hi, hpast, hlow]

theorem bytePgInput_code (i : Fin 4) : bytePgInput (BitVec.ofNat 8 (i.val + 1)) = some (some i) := by
  revert i
  decide

section DomainConfig
variable (c : DomainConfig)

theorem DomainConfig.mode_image : byteBool (c.image.getD 0 0) = some (c.mode == .heldMode) := by
  cases h : c.mode <;> simp [DomainConfig.image, h, byteBool]

theorem DomainConfig.wakeAllowed_image : byteBool (c.image.getD 1 0) = some c.wakeAllowed :=
  byteBool_boolByte c.wakeAllowed

theorem DomainConfig.polarity_image : byteBool (c.image.getD 2 0) = some (c.polarity == .activeLow) := by
  cases h : c.polarity <;> simp [DomainConfig.image, h, byteBool]

theorem DomainConfig.policy_image : byteBool (c.image.getD 3 0) = some (c.policy == .lenient) := by
  cases h : c.policy <;> simp [DomainConfig.image, h, byteBool]

theorem DomainConfig.pgInput_image : bytePgInput (c.image.getD 4 0) = some c.pgInput := by
  cases h : c.pgInput with
  | none => simp [DomainConfig.image, h, bytePgInput]
  | some i =>
    have himage : c.image.getD 4 0 = BitVec.ofNat 8 (i.val + 1) := by simp [DomainConfig.image, h]
    rw [himage, bytePgInput_code]

end DomainConfig

theorem DomainConfig.ofImage_image {mgmt : Byte} {c : DomainConfig} (h : ConfigOk mgmt c) (hmgmt : mgmt ≠ 0) :
    DomainConfig.ofImage mgmt c.image = some c := by
  obtain ⟨hsettle, hwake, hwake', hgap, hgap', htarget⟩ := h
  have htarget' : (c.checkTarget.getD 0).toNat ≤ 0x7F ∧ c.checkTarget.getD 0 ≠ mgmt := by
    cases ht : c.checkTarget with
    | none => exact ⟨by simp, fun h0 => hmgmt h0.symm⟩
    | some target =>
      obtain ⟨-, hle, hne⟩ := htarget target ht
      exact ⟨hle, hne⟩
  have hback : (if c.image.getD 5 0 = 0 then none else some (c.image.getD 5 0)) = c.checkTarget := by
    show (if c.checkTarget.getD 0 = 0 then none else some (c.checkTarget.getD 0)) = c.checkTarget
    cases ht : c.checkTarget with
    | none => rfl
    | some target =>
      obtain ⟨hpos, -, -⟩ := htarget target ht
      exact if_neg fun h0 : target = 0 => by simp [h0] at hpos
  have hidle : joinBytes (c.image.getD 11 0) (c.image.getD 12 0) = c.idleReload := joinBytes_hi_lo c.idleReload
  have hmode : (if (c.mode == .heldMode) = true then .heldMode else .managed) = c.mode := by
    cases c.mode <;> rfl
  have hpolarity : (if (c.polarity == .activeLow) = true then Polarity.activeLow else .activeHigh) = c.polarity := by
    cases c.polarity <;> rfl
  have hpolicy : (if (c.policy == .lenient) = true then RestorePolicy.lenient else .strict) = c.policy := by
    cases c.policy <;> rfl
  have hfields : (c.image.getD 5 0).toNat ≤ 0x7F ∧ c.image.getD 5 0 ≠ mgmt ∧ c.image.getD 6 0 ≠ 0
      ∧ 1 ≤ (c.image.getD 9 0).toNat ∧ (c.image.getD 9 0).toNat ≤ 4 ∧ 1 ≤ (c.image.getD 10 0).toNat
      ∧ (c.image.getD 10 0).toNat ≤ 16 :=
    ⟨htarget'.1, htarget'.2, hsettle, hwake, hwake', hgap, hgap'⟩
  simp only [DomainConfig.ofImage, c.mode_image, c.wakeAllowed_image, c.polarity_image, c.policy_image, c.pgInput_image,
    if_pos hfields, hmode, hpolarity, hpolicy, hback, hidle]
  rfl

/-- Settles O52, record by record. -/
theorem recordImagesReadBack : Obligations.RecordImagesReadBack :=
  ⟨Window.ofImage_image, fun _ _ h hmgmt => DomainConfig.ofImage_image h hmgmt, fun _ h => Format.ofImage_image h,
    ExtConfig.ofImage_image, eventSetOf_characters, Format.ok_iff,
    fun base location image payload =>
      ⟨overlay_length base image location payload, fun i hi => overlay_getD base image location payload i hi⟩⟩

end Sys2Proof.Machine
end

section
/-! PROOFS. A request frame sent character by character to a receiver in HUNT (R10, R18 to R20). -/
namespace Sys2Proof.Machine

/-! ## Characters one after another -/

theorem runCharacters_nil (s : State) : runCharacters s [] = .next s := rfl

theorem runCharacters_cons {s t : State} {b : Byte} (l : List Byte)
    (h : exec (.urxCharacterReceived b .good) s = .next t) : runCharacters s (b :: l) = runCharacters t l := by
  simp only [runCharacters, List.map_cons, runCommands, h]

theorem runCharacters_append {s t : State} {l : List Byte} (l' : List Byte) (h : runCharacters s l = .next t) :
    runCharacters s (l ++ l') = runCharacters t l' := by
  induction l generalizing s with
  | nil =>
    cases h
    rfl
  | cons b l ih =>
    cases hb : exec (.urxCharacterReceived b .good) s with
    | next u =>
      rw [runCharacters_cons l hb] at h
      rw [List.cons_append, runCharacters_cons _ hb, ih h]
    | fault r => simp [runCharacters, runCommands, hb] at h
    | refused r => simp [runCharacters, runCommands, hb] at h

/-! ## The frame under assembly -/

/-- The frame under assembly that these header and payload characters leave (R11, R20). -/
def Assembly.taken (header payload : List Byte) : Assembly :=
  { header := header, payload := payload, sum := checkSum (header ++ payload) }

theorem Assembly.takeHeader_taken (header : List Byte) (b : Byte) :
    (Assembly.taken header []).takeHeader b = .taken (header ++ [b]) [] := by
  simp [Assembly.taken, Assembly.takeHeader, checkSum_append, checkSum]

theorem Assembly.takePayload_taken (header payload : List Byte) (b : Byte) :
    (Assembly.taken header payload).takePayload b = .taken header (payload ++ [b]) := by
  simp [Assembly.taken, Assembly.takePayload, checkSum_append, checkSum, BitVec.add_assoc]

/-- The state between two characters of a frame: the line at mark, the receiver and the frame under assembly moved. -/
def State.receiving (s : State) (rx : RxState) (a : Assembly) : State :=
  s.withUport { s.uport with line := .mark 0, rx := rx, asm := a }

section Receiving
variable {s : State} {rx rx' : RxState} {a a' : Assembly} {b : Byte}

theorem exec_urxCharacter_receiving (h : (s.receiving rx a).receive b .good = s.receiving rx' a') :
    exec (.urxCharacterReceived b .good) (s.receiving rx a) = .next (s.receiving rx' a') :=
  exec_urxCharacter_withUport (s := s.receiving rx a) (u := (s.receiving rx' a').uport) rfl h

theorem exec_urxCharacter_lead (hrx : s.uport.rx = .hunt) (hl : s.uport.line.takesCharacter = true) :
    exec (.urxCharacterReceived 0xD2 .good) s = .next (s.receiving .header (.taken [] [])) :=
  exec_urxCharacter_withUport (u := (s.receiving .header (.taken [] [])).uport) hl
    ((State.receive_hunt (s := s.onLine (.mark 0)) _ _ hrx).trans (State.huntCharacter_lead _))

/-- Header characters but the last of six. -/
theorem runCharacters_header (pre chars : List Byte) (hlen : pre.length + chars.length < 6) :
    runCharacters (s.receiving .header (.taken pre [])) chars
      = .next (s.receiving .header (.taken (pre ++ chars) [])) := by
  induction chars generalizing pre with
  | nil => rw [List.append_nil, runCharacters_nil]
  | cons b chars ih =>
    have hb : exec (.urxCharacterReceived b .good) (s.receiving .header (.taken pre []))
        = .next (s.receiving .header (.taken (pre ++ [b]) [])) := by
      apply exec_urxCharacter_receiving
      rw [State.receive_header b rfl]
      show State.afterHeader _ ((Assembly.taken pre []).takeHeader b) = _
      rw [Assembly.takeHeader_taken, State.afterHeader_short]
      · rfl
      · simp only [List.length_cons, Assembly.taken, List.length_append, List.length_nil] at hlen ⊢
        omega
    rw [runCharacters_cons chars hb, ih, List.append_assoc, List.singleton_append]
    simp only [List.length_cons, List.length_append, List.length_nil] at hlen ⊢
    omega

/-- The sixth header character of a usable header (R19, R20). -/
theorem exec_urxCharacter_header_last {pre : List Byte} (hlen : pre.length = 5)
    (husable : headerUnusable (pre ++ [b]) = false) :
    exec (.urxCharacterReceived b .good) (s.receiving .header (.taken pre [])) =
      .next (s.receiving (if (Assembly.taken (pre ++ [b]) []).payloadCount = 0 then .check else .payload)
        (.taken (pre ++ [b]) [])) := by
  apply exec_urxCharacter_receiving
  rw [State.receive_header b rfl]
  show State.afterHeader _ ((Assembly.taken pre []).takeHeader b) = _
  have hsix : (Assembly.taken (pre ++ [b]) []).header.length = 6 := by simp [Assembly.taken, hlen]
  rw [Assembly.takeHeader_taken]
  split
  next hzero =>
    rw [State.afterHeader_check hsix husable hzero]
    rfl
  next hcount =>
    rw [State.afterHeader_payload hsix husable hcount]
    rfl

/-- Payload characters that leave some to come. -/
theorem runCharacters_payload (header pre chars : List Byte)
    (hlen : pre.length + chars.length < (Assembly.taken header []).payloadCount) :
    runCharacters (s.receiving .payload (.taken header pre)) chars
      = .next (s.receiving .payload (.taken header (pre ++ chars))) := by
  induction chars generalizing pre with
  | nil => rw [List.append_nil, runCharacters_nil]
  | cons b chars ih =>
    have hb : exec (.urxCharacterReceived b .good) (s.receiving .payload (.taken header pre))
        = .next (s.receiving .payload (.taken header (pre ++ [b]))) := by
      apply exec_urxCharacter_receiving
      rw [State.receive_payload b rfl]
      show State.afterPayload _ ((Assembly.taken header pre).takePayload b) = _
      rw [Assembly.takePayload_taken, State.afterPayload_more]
      · rfl
      · show (pre ++ [b]).length < (Assembly.taken header []).payloadCount
        simp only [List.length_cons, List.length_append, List.length_nil] at hlen ⊢
        omega
    rw [runCharacters_cons chars hb, ih, List.append_assoc, List.singleton_append]
    simp only [List.length_cons, List.length_append, List.length_nil] at hlen ⊢
    omega

/-- The last payload character (R20). -/
theorem exec_urxCharacter_payload_last {header pre : List Byte}
    (hlen : (pre ++ [b]).length = (Assembly.taken header []).payloadCount) :
    exec (.urxCharacterReceived b .good) (s.receiving .payload (.taken header pre))
      = .next (s.receiving .check (.taken header (pre ++ [b]))) := by
  apply exec_urxCharacter_receiving
  rw [State.receive_payload b rfl]
  show State.afterPayload _ ((Assembly.taken header pre).takePayload b) = _
  rw [Assembly.takePayload_taken, State.afterPayload_last hlen]
  rfl

/-- All the payload of a frame, none where its count is 0. -/
theorem runCharacters_toCheck {header payload : List Byte}
    (hlen : payload.length = (Assembly.taken header []).payloadCount) :
    runCharacters
        (s.receiving (if (Assembly.taken header []).payloadCount = 0 then .check else .payload) (.taken header []))
        payload
      = .next (s.receiving .check (.taken header payload)) := by
  obtain rfl | ⟨init, last, rfl⟩ := List.eq_nil_or_concat' payload
  · have hzero : (Assembly.taken header []).payloadCount = 0 := hlen.symm
    rw [if_pos hzero, runCharacters_nil]
  · have hsplit := hlen
    rw [List.length_append, List.length_singleton] at hsplit
    have hinit := runCharacters_payload (s := s) header [] init (by simp only [List.length_nil]; omega)
    rw [if_neg (by omega), runCharacters_append [last] hinit, List.nil_append,
      runCharacters_cons [] (exec_urxCharacter_payload_last hlen), runCharacters_nil]

end Receiving

/-! ## A request frame -/

/-- The six header characters of a request (R10). -/
def requestHeader (tag : Byte) (c : Command) : List Byte :=
  [tag, c.op, c.target, hiByte c.location, loByte c.location, c.length]

theorem requestFrame_eq (tag : Byte) (c : Command) :
    requestFrame tag c =
      (0xD2 :: (requestHeader tag c ++ c.payload)) ++ [0 - checkSum (requestHeader tag c ++ c.payload)] := rfl

theorem requestHeader_eq (tag : Byte) (c : Command) :
    requestHeader tag c =
      [tag, c.op, c.target, BitVec.ofNat 8 (c.location.toNat / 256), BitVec.ofNat 8 (c.location.toNat % 256),
        c.length] := by
  rw [requestHeader, hiByte_eq, loByte_eq]

theorem headerCommand_requestHeader (tag : Byte) (c : Command) : headerCommand (requestHeader tag c) c.payload = c :=
  congrArg (fun location => { c with location := location }) (joinBytes_hi_lo c.location)

theorem requestHeader_usable {tag : Byte} {c : Command} (htag : tag.toNat ≤ 0x0F)
    (hpayload : c.payload.length = requestPayloadCount c.op c.length) (hlen : c.payload.length ≤ 32) :
    headerUnusable (requestHeader tag c) = false := by
  refine headerUnusable_eq_false htag fun hop : c.op = 0x02 => ?_
  have hcount : requestPayloadCount c.op c.length = c.length.toNat := if_pos hop
  show c.length.toNat ≤ 32
  omega

/-- The characters of a frame but its check character bring the receiver to CHECK with the frame as it was sent. -/
theorem runCharacters_requestFrame {s : State} {tag : Byte} {c : Command} (hrx : s.uport.rx = .hunt)
    (hl : s.uport.line.takesCharacter = true) (husable : headerUnusable (requestHeader tag c) = false)
    (hpayload : c.payload.length = requestPayloadCount c.op c.length) :
    runCharacters s (0xD2 :: (requestHeader tag c ++ c.payload))
      = .next (s.receiving .check (.taken (requestHeader tag c) c.payload)) := by
  have hfive := runCharacters_header (s := s) [] [tag, c.op, c.target, hiByte c.location, loByte c.location]
    (Nat.lt_succ_self 5)
  have hsix := exec_urxCharacter_header_last (s := s) (b := c.length)
    (pre := [tag, c.op, c.target, hiByte c.location, loByte c.location]) rfl husable
  have hsplit : requestHeader tag c ++ c.payload =
      [tag, c.op, c.target, hiByte c.location, loByte c.location] ++ c.length :: c.payload := rfl
  rw [runCharacters_cons _ (exec_urxCharacter_lead hrx hl), hsplit, runCharacters_append _ hfive, List.nil_append,
    runCharacters_cons _ hsix]
  exact runCharacters_toCheck (header := requestHeader tag c) hpayload

theorem atDelivery_taken (s : State) (tag : Byte) (c : Command) :
    AtDelivery (s.receiving .check (.taken (requestHeader tag c) c.payload))
      (0 - checkSum (requestHeader tag c ++ c.payload)) tag c :=
  ⟨rfl, rfl, add_sub_cancel _ _, rfl, headerCommand_requestHeader tag c⟩

theorem State.receiving_touches (s : State) (rx : RxState) (a : Assembly) : Frame [.uport] s (s.receiving rx a) := by
  intro b hb
  cases b <;> simp_all [State.agrees, State.receiving]

/-- Settles O53: the run to CHECK, character by character. -/
theorem requestFrameIsDelivered : Obligations.RequestFrameIsDelivered := by
  refine ⟨fun tag c => ?_, fun _ _ => rfl, fun header => headerUnusable_iff header,
    fun s tag c hrx hl htag hpayload hlen => ?_⟩
  · rw [requestFrame_eq, requestHeader_eq]
    rfl
  · have hrun := runCharacters_requestFrame (tag := tag) hrx hl (requestHeader_usable htag hpayload hlen) hpayload
    rw [requestFrame_eq, List.dropLast_concat, List.getLastD_concat]
    exact ⟨_, hrun, atDelivery_taken s tag c, s.receiving_touches _ _, rfl⟩

end Sys2Proof.Machine
end

section
/-! PROOFS. Requests no window permits, the domain timers, and the inputs (R57, R63, R64, R80 to R84, R94, R95, R154 to
R156). -/
namespace Sys2Proof.Machine

/-! ## A request no window permits (R57, R63, R64) -/

theorem Window.permits_iff (w : Window) (op : Byte) :
    w.permits op = true ↔
      (op = 0x01 ∧ w.permitsRead = true) ∨ (op = 0x02 ∧ w.permitsWrite = true)
        ∨ (op = 0x03 ∧ w.permitsProbe = true) := by
  show w.permits op = true ↔
    (op = opRead ∧ w.permitsRead = true) ∨ (op = opWrite ∧ w.permitsWrite = true)
      ∨ (op = opProbe ∧ w.permitsProbe = true)
  have hcodes : opRead ≠ opWrite ∧ opRead ≠ opProbe ∧ opWrite ≠ opProbe := by decide
  obtain ⟨hrw, hrp, hwp⟩ := hcodes
  unfold Window.permits
  split_ifs with hread hwrite hprobe
  · simp [hread, hrw, hrp]
  · simp [hwrite, hrw.symm, hwp]
  · simp [hprobe, hrp.symm, hwp.symm]
  · simp [hread, hwrite, hprobe]

section NotPermitted
variable {s : State} {data tag : Byte} {c : Command}

theorem exec_uncovered (hdelivery : AtDelivery s data tag c) (hforwarded : Forwarded s tag c)
    (hmatch : s.matchedWindow c = none) :
    exec (.urxCharacterReceived data .good) s =
      .next ((s.delivered.withEntries (s.entries ++ [newEntry tag c none (.done .noWindow [])])).withReplyQueue
        (s.replyQueue ++ [tag])) := by
  have hdelivered : s.delivered.matchedWindow c = none := hmatch
  rw [forward_eq s data tag c hdelivery hforwarded, State.forward, hdelivered, State.addDone_eq]
  exact finishEvent_same _ _ (by simp)

theorem exec_denied {i : Fin 32} (hdelivery : AtDelivery s data tag c) (hforwarded : Forwarded s tag c)
    (hmatch : s.matchedWindow c = some i) (hpermits : (s.windows.get i).permits c.op = false) :
    exec (.urxCharacterReceived data .good) s =
      .next (announce s ((s.delivered.countHit i).addDone tag c none .denied)) := by
  have hdelivered : s.delivered.matchedWindow c = some i := hmatch
  rw [forward_eq s data tag c hdelivery hforwarded, finishEvent_eq]
  simp only [State.forward, hdelivered, State.delivered_frame, hpermits, Bool.false_eq_true, if_false]

end NotPermitted

theorem denied_touches (s : State) (i : Fin 32) (tag : Byte) (c : Command) (snap : Option Snapshot) (status : Status) :
    Frame [.uport, .entries, .replyQueue, .hits, .events] s ((s.delivered.countHit i).addDone tag c snap status) := by
  intro b hb
  cases b <;> simp_all [State.agrees, State.addDone_eq]

/-- Settles O20, by whether a window matches. -/
theorem uncoveredOrDeniedRequest : Obligations.UncoveredOrDeniedRequest := by
  refine ⟨Window.permits_iff, fun s data tag c hdelivery hforwarded =>
    ⟨exec_uncovered hdelivery hforwarded, fun i hmatch hpermits =>
      ⟨_, exec_denied hdelivery hforwarded hmatch hpermits, frame_announce _ _ _ (by simp)
          (denied_touches s i tag c _ _),
        ?_, ?_, ?_, ?_, ?_⟩⟩⟩
  · simp [State.addDone_eq]
  · simp [State.addDone_eq]
  · simp [State.addDone_eq, countHit_hits]
  · simpa [RaisedOnly, State.addDone_eq] using raisedOnly_countHit s.delivered i
  · rw [announce_uport, noticeAfter_announce]
    simp [State.addDone_eq, noticeAfter, State.delivered]

/-! ## The domain timers (R80 to R84) -/

/-- An event that moves domain `d` to `x` and sets these classes, and does nothing else. -/
structure DomainSet (s t : State) (d : DomainId) (x : Domain) (cs : List EventClass) : Prop where
  touches : Frame [.uport, .domains, .events] s t
  uport : UportKept s t
  others : OtherDomainsKept [d] s t
  dom : t.dom d = x
  raised : RaisedOnly s t cs

theorem State.raiseAll_status (s : State) (cs : List EventClass) :
    (s.raiseAll cs).events = { s.events with status := cs.foldl (fun e c => e ||| c.bit) s.events.status } := by
  induction cs generalizing s with
  | nil => rfl
  | cons c cs ih => exact ih (s.raise c)

theorem domainSet_announce (s : State) (d : DomainId) (x : Domain) (cs : List EventClass) :
    DomainSet s (announce s ((s.raiseAll cs).setDom d x)) d x cs where
  touches := frame_announce _ _ _ (by simp) fun b hb => by cases b <;> simp_all [State.agrees]
  uport := uportKept_announce _ _ (by simp)
  others := (otherDomainsKept_announce _ _ _).2 fun e he => by
    rw [State.dom_setDom_ne _ _ (by simpa using he), State.dom_raiseAll]
  dom := by simp
  raised := by simp [RaisedOnly, State.raiseAll_status]

section Timers
variable {s : State} {d : DomainId} {n : Nat}

theorem exec_idleExpiry_held (h : (s.dom d).state = .on (some n)) (hmode : (s.dom d).config.mode = .heldMode) :
    exec (.idleExpiry d) s = .next (s.setDom d { s.dom d with state := .on none }) := by
  show execIdleExpiry d s = _
  simp only [execIdleExpiry, h, hmode]
  exact finishEvent_same _ _ (by simp)

theorem exec_idleExpiry_warns (h : (s.dom d).state = .on (some n)) (hmode : (s.dom d).config.mode = .managed)
    (hwarning : (s.dom d).config.warning ≠ 0) :
    ∃ t, exec (.idleExpiry d) s = .next t
      ∧ DomainSet s t d { s.dom d with state := .warning ((s.dom d).config.warning.toNat * 10) } [.domainWarning] := by
  refine ⟨_, ?_, domainSet_announce s d _ [.domainWarning]⟩
  show execIdleExpiry d s = _
  simp only [execIdleExpiry, h, hmode, if_neg hwarning]
  rfl

theorem exec_idleExpiry_drains (h : (s.dom d).state = .on (some n)) (hmode : (s.dom d).config.mode = .managed)
    (hwarning : (s.dom d).config.warning = 0) :
    exec (.idleExpiry d) s = finishEvent s ((s.raise .domainWarning).enterDraining d) := by
  show execIdleExpiry d s = _
  simp only [execIdleExpiry, h, hmode, if_pos hwarning]

theorem exec_warningExpiry_warning (h : (s.dom d).state = .warning n) :
    exec (.warningExpiry d) s = finishEvent s (s.enterDraining d) := by
  show execWarningExpiry d s = _
  simp only [execWarningExpiry, h, DomState.isWarning, if_true]

/-- A domain that enters DRAINING after classes are set, with nothing of it in progress and with something (R83). -/
theorem domainSet_enterDraining_done (hwork : NoWork s d) (cs : List EventClass) :
    DomainSet s (announce s ((s.raiseAll cs).enterDraining d)) d (s.dom d).cooled (cs ++ [.domainDown]) := by
  have hwork' : NoWork (s.raiseAll cs) d := (noWork_congr d (by simp) (by simp)).2 hwork
  have hcs : (s.raiseAll cs).raise .domainDown = s.raiseAll (cs ++ [.domainDown]) := by
    simp [State.raiseAll, List.foldl_append]
  rw [enterDraining_done _ d hwork', hcs, State.dom_raiseAll]
  exact domainSet_announce s d _ _

theorem domainSet_enterDraining_waits (hwork : ¬NoWork s d) (cs : List EventClass) :
    DomainSet s (announce s ((s.raiseAll cs).enterDraining d)) d { s.dom d with state := .draining } cs := by
  have hwork' : ¬NoWork (s.raiseAll cs) d := fun h => hwork ((noWork_congr d (by simp) (by simp)).1 h)
  rw [enterDraining_waits _ d hwork', State.dom_raiseAll]
  exact domainSet_announce s d _ _

theorem exec_minimumOffExpiry_cooldown (h : (s.dom d).state = .cooldown n) :
    exec (.minimumOffExpiry d) s = finishEvent s (s.minimumOffDone d) := by
  show execMinimumOffExpiry d s = _
  simp only [execMinimumOffExpiry, h]

theorem exec_minimumOffExpiry_restarts (h : (s.dom d).state = .cooldown n) (hwake : (s.dom d).pendingWake = true) :
    exec (.minimumOffExpiry d) s = .next (s.setDom d
      { s.dom d with
        state := .settling (s.dom d).config.settleTime.toNat, attempt := (s.dom d).attempt + 1 }) := by
  rw [exec_minimumOffExpiry_cooldown h, State.minimumOffDone, if_pos hwake, enterSettling_eq, setDom_setDom,
    State.dom_setDom_self]
  exact finishEvent_same _ _ (by simp)

theorem exec_minimumOffExpiry_off (h : (s.dom d).state = .cooldown n) (hwake : (s.dom d).pendingWake = false) :
    exec (.minimumOffExpiry d) s = .next (s.setDom d { s.dom d with state := .off }) := by
  rw [exec_minimumOffExpiry_cooldown h, State.minimumOffDone, if_neg (by simp [hwake])]
  exact finishEvent_same _ _ (by simp)

end Timers

/-- Settles O24, timer by timer. -/
theorem timerExpiriesMoveTheDomain : Obligations.TimerExpiriesMoveTheDomain := by
  refine fun s d => ⟨fun n h hmode => exec_idleExpiry_held h hmode, fun n h hmode => ?idle, fun n h => ?warning,
    fun n h => ⟨exec_minimumOffExpiry_restarts h, exec_minimumOffExpiry_off h⟩⟩
  case idle =>
    by_cases hwarning : (s.dom d).config.warning = 0
    · refine ⟨_, exec_idleExpiry_drains h hmode hwarning, ?_⟩
      by_cases hwork : NoWork s d
      · have ht := domainSet_enterDraining_done hwork [.domainWarning]
        exact ⟨ht.touches, ht.uport, ht.others, fun hw => absurd hwarning hw, fun _ _ => ⟨ht.dom, ht.raised⟩,
          fun _ hn => absurd hwork hn⟩
      · have ht := domainSet_enterDraining_waits hwork [.domainWarning]
        exact ⟨ht.touches, ht.uport, ht.others, fun hw => absurd hwarning hw, fun _ hn => absurd hn hwork,
          fun _ _ => ⟨ht.dom, ht.raised⟩⟩
    · obtain ⟨t, hexec, ht⟩ := exec_idleExpiry_warns h hmode hwarning
      exact ⟨t, hexec, ht.touches, ht.uport, ht.others, fun _ => ⟨ht.dom, ht.raised⟩, fun hw => absurd hw hwarning,
        fun hw => absurd hw hwarning⟩
  case warning =>
    refine ⟨_, exec_warningExpiry_warning h, ?_⟩
    by_cases hwork : NoWork s d
    · have ht := domainSet_enterDraining_done hwork []
      exact ⟨ht.touches, ht.uport, ht.others, fun _ => ⟨ht.dom, ht.raised⟩, fun hn => absurd hwork hn⟩
    · have ht := domainSet_enterDraining_waits hwork []
      exact ⟨ht.touches, ht.uport, ht.others, fun hn => absurd hn hwork, fun _ => ⟨ht.dom, ht.raised⟩⟩

end Sys2Proof.Machine
end

section
/-! PROOFS. The power-good inputs and the external inputs (R94, R95, R99, R154 to R156). -/
namespace Sys2Proof.Machine

/-! ## A power-good input (R94, R95) -/

theorem Filter.rawLevel_eq (f : Filter) (high : Bool) :
    f.rawLevel high =
      { level := f.level, progress := if high = f.level then none else some (f.progress.getD 0) } := by
  unfold Filter.rawLevel
  split_ifs <;> rfl

section PowerGood
variable {s : State} {i : Fin 4}

theorem exec_powerGoodChange (s : State) (i : Fin 4) (high : Bool) :
    exec (.powerGoodChange i high) s = .next (s.withPg (s.pg.set i ((s.pg.get i).rawLevel high))) :=
  finishEvent_same _ _ rfl

theorem exec_powerGoodFilteredChange_idle (h : (s.pg.get i).progress = none) :
    exec (.powerGoodFilteredChange i) s = .next s := by
  show execPowerGoodFilteredChange i s = _
  simp only [execPowerGoodFilteredChange, h]
  exact finishEvent_self s

/-- The state with the input's filtered level changed, before it acts on any domain (R94). -/
def State.pgChanged (s : State) (i : Fin 4) : State := s.withPg (s.pg.set i (s.pg.get i).change)

theorem exec_powerGoodFilteredChange_rising (h : (s.pg.get i).progress ≠ none) (hl : (s.pg.get i).level = false) :
    exec (.powerGoodFilteredChange i) s = .next (s.pgChanged i) := by
  show execPowerGoodFilteredChange i s = _
  obtain ⟨n, hn⟩ := Option.ne_none_iff_exists'.1 h
  simp only [execPowerGoodFilteredChange, hn, hl, Bool.false_eq_true, if_false]
  exact finishEvent_same _ _ rfl

/-- The state a falling of the input leaves (R94, R95). -/
def State.pgFallen (s : State) (i : Fin 4) : State :=
  finishFaulted (s.pgChanged i) ((s.pgChanged i).powerGoodFalling i)

theorem exec_powerGoodFilteredChange_falling (h : (s.pg.get i).progress ≠ none) (hl : (s.pg.get i).level = true) :
    exec (.powerGoodFilteredChange i) s =
      .next (announce s (s.pgFallen i)) := by
  show execPowerGoodFilteredChange i s = _
  obtain ⟨n, hn⟩ := Option.ne_none_iff_exists'.1 h
  simp only [execPowerGoodFilteredChange, hn, hl, if_true]
  rfl

@[simp] theorem State.dom_pgChanged (s : State) (i : Fin 4) (d : DomainId) : (s.pgChanged i).dom d = s.dom d := rfl

theorem pgChanged_touches (s : State) (i : Fin 4) : Frame [.pg] s (s.pgChanged i) := by
  intro b hb
  cases b <;> simp_all [State.agrees, State.pgChanged]

end PowerGood

/-! ## What a falling makes of a domain -/

theorem Domain.powerLost_inService {x : Domain} (h : x.state.inService = true) :
    x.powerLost = { x with state := .fault, cause := .powerLost, pendingWake := false } := by
  cases hs : x.state <;> simp_all [Domain.powerLost, DomState.inService]

/-- The states in which a falling ends a wake attempt: CHECKING and RESTORING (R95). -/
def DomState.attemptLost (x : DomState) : Prop := (∃ p g, x = .checking p g) ∨ ∃ k g, x = .restoring k g

theorem Domain.powerLost_again {x : Domain} (h : x.state.attemptLost) (hl : x.attempt < x.config.wakeLimit.toNat) :
    x.powerLost = Domain.cooled { x with failedCount := satInc x.failedCount, pendingWake := true } := by
  obtain ⟨_, _, h⟩ | ⟨_, _, h⟩ := h <;> simp only [Domain.powerLost, h, if_pos hl]

theorem Domain.powerLost_last {x : Domain} (h : x.state.attemptLost) (hl : x.config.wakeLimit.toNat ≤ x.attempt) :
    x.powerLost =
      { x with failedCount := satInc x.failedCount, state := .fault, cause := .pgLow, pendingWake := false } := by
  obtain ⟨_, _, h⟩ | ⟨_, _, h⟩ := h <;> simp only [Domain.powerLost, h, if_neg (Nat.not_lt.2 hl)]

theorem Domain.powerLost_idle {x : Domain}
    (h : (∃ n, x.state = .settling n) ∨ x.state = .off ∨ (∃ n, x.state = .cooldown n) ∨ x.state = .fault) :
    x.powerLost = x ∧ x.state.fallActs = false := by
  obtain ⟨_, h⟩ | h | ⟨_, h⟩ | h := h <;> simp only [Domain.powerLost, DomState.fallActs, h, and_self]

theorem DomState.fallActs_of_inService {x : DomState} (h : x.inService = true) : x.fallActs = true := by
  cases x <;> simp_all [DomState.inService, DomState.fallActs]

theorem DomState.fallActs_of_attemptLost {x : DomState} (h : x.attemptLost) : x.fallActs = true := by
  obtain ⟨_, _, rfl⟩ | ⟨_, _, rfl⟩ := h <;> rfl

/-- The classes a falling sets for a domain, by what becomes of the domain (R91, R92, R95). -/
theorem Domain.powerLostSets_iff (x : Domain) (c : EventClass) :
    x.powerLostSets c = true ↔
      (c = .domainFault ∧ x.state ≠ .fault ∧ x.powerLost.state = .fault)
        ∨ (c = .wakeRetry ∧ x.state.attemptLost ∧ x.attempt < x.config.wakeLimit.toNat) := by
  have hcooled : ∀ y : Domain, ¬y.cooled.state = .fault := cooled_not_fault
  by_cases hl : x.attempt < x.config.wakeLimit.toNat <;> cases hs : x.state <;>
    simp [Domain.powerLostSets, Domain.powerLost, DomState.attemptLost, hs, hl, hcooled]

/-- The classes a falling of the input sets (R91, R92, R95). -/
theorem State.powerGoodFalling_status (s : State) (i : Fin 4) (c : EventClass) :
    (s.powerGoodFalling i).events.status.has c = true ↔
      s.events.status.has c = true
        ∨ ∃ d, (s.dom d).config.pgInput = some i ∧ (s.dom d).powerLostSets c = true := by
  unfold State.powerGoodFalling
  rw [falls_status i allDomains allDomains_nodup]
  simp

/-- An entry's domain has entered FAULT exactly where some domain is the entry's and has. -/
theorem faultedEntry_iff (s t : State) (e : Entry) :
    faultedEntry s t e =
      ((e.state.isQueued || e.state.isParked)
        && allDomains.any fun d => e.domain? == some d && !(s.dom d).state.isFault && (t.dom d).state.isFault) := by
  rw [faultedEntry]
  congr 1
  cases hd : e.domain? with
  | none => simp
  | some d =>
    rw [Bool.eq_iff_iff]
    simp [and_comm]

/-- An entry a fault ends is not DONE yet. -/
theorem faultedEntry_not_done (s t : State) (e : Entry) :
    (faultedEntry s t e && !e.state.isDone) = faultedEntry s t e := by
  cases hs : e.state <;>
    simp [faultedEntry, EntryState.isQueued, EntryState.isParked, EntryState.isDone, hs]

/-- The entries a fault ends are DONE with DOMAIN_FAULT, in arrival order (R51). -/
theorem finishFaulted_table (s t : State) :
    (finishFaulted s t).entries =
        t.entries.map (fun e => if faultedEntry s t e then { e with state := .done .domainFault [] } else e)
      ∧ (finishFaulted s t).replyQueue = t.replyQueue ++ (t.entries.filter (faultedEntry s t)).map (·.tag) := by
  simp only [finishFaulted, State.finishWhere, faultedEntry_not_done]
  exact ⟨rfl, rfl⟩

theorem State.dom_pgFallen (s : State) (i : Fin 4) (d : DomainId) :
    (s.pgFallen i).dom d = if (s.dom d).config.pgInput = some i then (s.dom d).powerLost else s.dom d := by
  rw [State.pgFallen, dom_finishFaulted, State.dom_powerGoodFalling]
  rfl

theorem State.pgFallen_notes (s : State) (i : Fin 4) :
    (s.pgFallen i).sport = { s.sport with notes := (s.pgFallen i).sport.notes }
      ∧ ∀ d, (s.pgFallen i).sport.notes.get d =
          if (s.dom d).config.pgInput = some i ∧ (s.dom d).state.fallActs = true then none
          else s.sport.notes.get d := by
  obtain ⟨notes, hsport, hget⟩ := (s.pgChanged i).powerGoodFalling_notes i
  have hfallen : (s.pgFallen i).sport = { s.sport with notes := notes } := by
    rw [State.pgFallen, (finishFaulted_frame _ _).2.2.2.2.2.2.2.1, hsport]
    rfl
  rw [hfallen]
  exact ⟨rfl, hget⟩

theorem State.pgFallen_status (s : State) (i : Fin 4) (c : EventClass) :
    (s.pgFallen i).events.status.has c = true ↔
      (s.events.status.has c = true
        ∨ (c = .domainFault ∧ ∃ d, (s.dom d).state ≠ .fault ∧ ((s.pgFallen i).dom d).state = .fault)
        ∨ (c = .wakeRetry ∧ ∃ d, (s.dom d).config.pgInput = some i ∧ (s.dom d).state.attemptLost
            ∧ (s.dom d).attempt < (s.dom d).config.wakeLimit.toNat)) := by
  have hevents : (s.pgFallen i).events = ((s.pgChanged i).powerGoodFalling i).events := by
    simp [State.pgFallen]
  rw [hevents, State.powerGoodFalling_status]
  simp only [State.dom_pgChanged, Domain.powerLostSets_iff, State.dom_pgFallen]
  refine or_congr Iff.rfl ⟨?_, ?_⟩
  · rintro ⟨d, hd, ⟨rfl, hnot, hfault⟩ | ⟨rfl, hlost, hl⟩⟩
    · exact .inl ⟨rfl, d, hnot, by rwa [if_pos hd]⟩
    · exact .inr ⟨rfl, d, hd, hlost, hl⟩
  · rintro (⟨rfl, d, hnot, hfault⟩ | ⟨rfl, d, hd, hlost, hl⟩)
    · split at hfault
      next hd => exact ⟨d, hd, .inl ⟨rfl, hnot, hfault⟩⟩
      next => exact absurd hfault hnot
    · exact ⟨d, hd, .inr ⟨rfl, hlost, hl⟩⟩

theorem State.pgFallen_frame (s : State) (i : Fin 4) :
    (s.pgFallen i).uport = s.uport ∧ (s.pgFallen i).pg = s.pg.set i (s.pg.get i).change
      ∧ (s.pgFallen i).parkLimit = s.parkLimit ∧ (s.pgFallen i).windows = s.windows ∧ (s.pgFallen i).hits = s.hits
      ∧ (s.pgFallen i).shadow = s.shadow ∧ (s.pgFallen i).straps = s.straps ∧ (s.pgFallen i).pending = s.pending := by
  simp [State.pgFallen, State.pgChanged]

theorem State.pgFallen_touches (s : State) (i : Fin 4) :
    Frame [.uport, .entries, .replyQueue, .domains, .pg, .sport, .events] s (s.pgFallen i) := by
  obtain ⟨-, -, hpark, hwindows, hhits, hshadow, hstraps, hpending⟩ := s.pgFallen_frame i
  intro b hb
  cases b <;> simp_all [State.agrees]

theorem State.pgFallen_raises (s : State) (i : Fin 4) :
    (s.pgFallen i).events.enable = s.events.enable ∧ (s.pgFallen i).events.inputs = s.events.inputs := by
  have h := Raises.powerGoodFalling (s.pgChanged i) i
  simp only [State.pgFallen, finishFaulted_frame]
  exact ⟨h.enable, h.inputs⟩

theorem State.pgFallen_table (s : State) (i : Fin 4) :
    (s.pgFallen i).entries =
        s.entries.map
          (fun e => if faultedEntry s (s.pgFallen i) e then { e with state := .done .domainFault [] } else e)
      ∧ (s.pgFallen i).replyQueue =
          s.replyQueue ++ (s.entries.filter (faultedEntry s (s.pgFallen i))).map (·.tag) := by
  have hfaulted : ∀ e, faultedEntry s (s.pgFallen i) e
      = faultedEntry (s.pgChanged i) ((s.pgChanged i).powerGoodFalling i) e := fun e => by
    simp only [faultedEntry, State.pgFallen, dom_finishFaulted, State.dom_pgChanged]
  obtain ⟨hentries, hqueue⟩ := finishFaulted_table (s.pgChanged i) ((s.pgChanged i).powerGoodFalling i)
  have hfun : faultedEntry s (s.pgFallen i) = faultedEntry (s.pgChanged i) ((s.pgChanged i).powerGoodFalling i) :=
    funext hfaulted
  rw [hfun]
  simp only [State.powerGoodFalling_frame] at hentries hqueue
  exact ⟨hentries, hqueue⟩

/-- Settles O26, domain by domain. -/
theorem powerGoodFallingActsByState : Obligations.PowerGoodFallingActsByState := by
  refine fun s i => ⟨fun high => ?_, fun h hl => ?_, exec_powerGoodFilteredChange_idle, fun h hl =>
    ⟨_, exec_powerGoodFilteredChange_falling h hl, ?falling⟩⟩
  · rw [exec_powerGoodChange, Filter.rawLevel_eq]
  · rw [exec_powerGoodFilteredChange_rising h hl, State.pgChanged, Filter.change, hl]
    rfl
  case falling =>
    obtain ⟨huport, hpg, -⟩ := s.pgFallen_frame i
    obtain ⟨hsport, hnotes⟩ := s.pgFallen_notes i
    obtain ⟨henable, hinputs⟩ := s.pgFallen_raises i
    have hdom := s.dom_pgFallen i
    simp only [dom_announce, announce_entries, announce_replyQueue, announce_sport, announce_events, announce_pg,
      ← faultedEntry_iff]
    refine ⟨by rw [hpg, Filter.change, hl]; rfl, frame_announce _ _ _ (by simp) (s.pgFallen_touches i),
      uportKept_announce _ _ huport, fun d hd => ?_, fun d hd => ⟨fun hs => ?_, fun hs => ?_, fun hs => ?_⟩,
      s.pgFallen_table i, hsport, henable, hinputs, s.pgFallen_status i⟩
    · rw [hdom, if_neg hd, hnotes, if_neg fun h => hd h.1]
      exact ⟨rfl, rfl⟩
    · rw [hdom, if_pos hd, hnotes, if_pos ⟨hd, DomState.fallActs_of_inService hs⟩]
      exact ⟨Domain.powerLost_inService hs, rfl⟩
    · rw [hdom, if_pos hd, hnotes, if_pos ⟨hd, DomState.fallActs_of_attemptLost hs⟩]
      exact ⟨Domain.powerLost_again hs, Domain.powerLost_last hs, rfl⟩
    · obtain ⟨hlost, hacts⟩ := Domain.powerLost_idle hs
      rw [hdom, if_pos hd, hnotes, if_neg (by simp [hacts])]
      exact ⟨hlost, rfl⟩

end Sys2Proof.Machine
end

section
/-! PROOFS. The external inputs (R99, R154 to R156). -/
namespace Sys2Proof.Machine

/-! ## An edge of an external input -/

theorem EdgeSelect.selects_iff (e : EdgeSelect) (up : Bool) :
    e.selects up = true ↔ e = .both ∨ (e = .rising ∧ up = true) ∨ (e = .falling ∧ up = false) := by
  cases e <;> simp [EdgeSelect.selects]

/-- Where the classes set and enabled stand, the end of the event changes nothing (R152). -/
theorem announce_live {s t : State} (h : t.events.live = s.events.live) : announce s t = t := by
  rw [announce, if_neg]
  rw [h]
  exact fun hn => hn.2 hn.1

theorem finishEvent_live {s t : State} (h : t.events.live = s.events.live) : finishEvent s t = .next t := by
  rw [finishEvent_eq, announce_live h]

section Input
variable {s : State} {i : Fin 4}

theorem exec_extInputChange (s : State) (i : Fin 4) (high : Bool) :
    exec (.extInputChange i high) s = .next (s.setInput i
      { s.events.inputs.get i with filter := (s.events.inputs.get i).filter.rawLevel high }) :=
  finishEvent_live rfl

theorem exec_filteredChange_idle (h : (s.events.inputs.get i).filter.progress = none) :
    exec (.filteredChange i) s = .next s := by
  show execFilteredChange i s = _
  simp only [execFilteredChange, h]
  exact finishEvent_self s

/-- The state with the input's filtered level changed, before the edge acts (R154). -/
def State.inputChanged (s : State) (i : Fin 4) : State :=
  s.setInput i { s.events.inputs.get i with filter := (s.events.inputs.get i).filter.change }

theorem State.inputChanged_get (s : State) (i : Fin 4) :
    (s.inputChanged i).events.inputs.get i =
      { s.events.inputs.get i with filter := (s.events.inputs.get i).filter.change } := get_set_self _ _ _

theorem exec_filteredChange_notSelected (h : (s.events.inputs.get i).filter.progress ≠ none)
    (hedge : (s.events.inputs.get i).config.edge.selects (!(s.events.inputs.get i).filter.level) = false) :
    exec (.filteredChange i) s = .next (s.inputChanged i) := by
  show execFilteredChange i s = _
  obtain ⟨n, hn⟩ := Option.ne_none_iff_exists'.1 h
  simp only [execFilteredChange, hn, hedge]
  exact finishEvent_live rfl

theorem exec_filteredChange_selected (h : (s.events.inputs.get i).filter.progress ≠ none)
    (hedge : (s.events.inputs.get i).config.edge.selects (!(s.events.inputs.get i).filter.level) = true) :
    exec (.filteredChange i) s = .next (announce s ((s.inputChanged i).selectedEdge i)) := by
  show execFilteredChange i s = _
  obtain ⟨n, hn⟩ := Option.ne_none_iff_exists'.1 h
  simp only [execFilteredChange, hn, hedge, if_true]
  rfl

end Input

/-- The event unit after an edge the selection selects (R156). -/
theorem State.edgeTaken_events (s : State) (i : Fin 4) :
    ((s.inputChanged i).selectedEdge i).events =
      { s.events with
        status :=
          if (s.events.inputs.get i).config.raise then s.events.status ||| EventClass.extInput.bit else s.events.status
        inputs := s.events.inputs.set i
          { config := (s.events.inputs.get i).config, filter := (s.events.inputs.get i).filter.change,
            seen := true } } := by
  rw [State.selectedEdge_events, State.inputChanged_get]
  cases hraise : (s.events.inputs.get i).config.raise <;>
    simp [State.setInput, State.inputChanged, State.raise, Vector.set_set]

theorem State.dom_edgeTaken (s : State) (i : Fin 4) (d : DomainId) :
    ((s.inputChanged i).selectedEdge i).dom d =
      (s.dom d).edgeActed (inDomainSet (s.events.inputs.get i).config.activity d)
        (inDomainSet (s.events.inputs.get i).config.wake d) := by
  rw [State.dom_selectedEdge, State.inputChanged_get]
  rfl

theorem State.edgeTaken_touches (s : State) (i : Fin 4) :
    Frame [.uport, .domains, .events] s ((s.inputChanged i).selectedEdge i) := by
  intro b hb
  cases b <;> simp_all [State.agrees, State.inputChanged]

/-! ## What an edge makes of a domain (R99, R156) -/

section EdgeActed
variable {x : Domain} {acts wakes : Bool}

theorem Domain.edgeActed_unnamed (ha : acts = false) (hw : wakes = false) : x.edgeActed acts wakes = x := by
  subst ha hw
  unfold Domain.edgeActed
  split <;> rfl

theorem Domain.edgeActed_inService (hs : x.state.takesActivity = true) (h : acts = true ∨ wakes = true) :
    x.edgeActed acts wakes = x.active := by
  obtain ⟨_, hs⟩ | ⟨_, hs⟩ := (DomState.takesActivity_iff _).1 hs <;> simp [Domain.edgeActed, hs, h]

theorem Domain.edgeActed_off (hw : wakes = true) (hallowed : x.config.wakeAllowed = true) (hs : x.state = .off) :
    x.edgeActed acts wakes = x.woken := by
  simp [Domain.edgeActed, hs, hw, hallowed]

theorem Domain.edgeActed_poweringDown (hw : wakes = true) (hallowed : x.config.wakeAllowed = true)
    (hs : x.state = .draining ∨ ∃ n, x.state = .cooldown n) : x.edgeActed acts wakes = x.willWake := by
  obtain hs | ⟨_, hs⟩ := hs <;> simp [Domain.edgeActed, hs, hw, hallowed]

theorem Domain.edgeActed_noWake (hs : x.state.takesActivity = false)
    (h : wakes = false ∨ x.config.wakeAllowed = false) :
    x.edgeActed acts wakes = x := by
  have hwake : (wakes && x.config.wakeAllowed) = false := by
    obtain h | h := h <;> simp [h]
  cases hx : x.state <;> simp_all [Domain.edgeActed, DomState.takesActivity]

theorem Domain.edgeActed_busy (hs : x.state.inAttempt = true ∨ x.state = .fault) : x.edgeActed acts wakes = x := by
  cases hx : x.state <;> simp_all [Domain.edgeActed, DomState.inAttempt]

end EdgeActed

/-- Settles O27, by whether the filter moves and the selection selects the edge. -/
theorem selectedEdgeActs : Obligations.SelectedEdgeActs := by
  refine fun s i => ⟨fun high => ?_, exec_filteredChange_idle, fun h hnot => ?_, fun h hsel =>
    ⟨_, exec_filteredChange_selected h ((EdgeSelect.selects_iff _ _).2 hsel),
      frame_announce _ _ _ (by simp) (s.edgeTaken_touches i), uportKept_announce _ _ ?_, ?_, ?_, fun c => ?_,
      fun d => ?_⟩⟩
  · rw [exec_extInputChange, Filter.rawLevel_eq]
    rfl
  · have hedge : (s.events.inputs.get i).config.edge.selects (!(s.events.inputs.get i).filter.level) = false := by
      rw [← Bool.not_eq_true, EdgeSelect.selects_iff]
      exact hnot
    exact exec_filteredChange_notSelected h hedge
  · simp [State.inputChanged, State.setInput]
  · rw [announce_events, State.edgeTaken_events]
    rfl
  · rw [announce_events, State.edgeTaken_events]
  · rw [announce_events, State.edgeTaken_events]
    cases hraise : (s.events.inputs.get i).config.raise <;> simp [has_or_bit]
  · rw [dom_announce, State.dom_edgeTaken]
    exact ⟨Domain.edgeActed_unnamed, Domain.edgeActed_inService, Domain.edgeActed_off, Domain.edgeActed_poweringDown,
      Domain.edgeActed_noWake, Domain.edgeActed_busy⟩

end Sys2Proof.Machine
end

section
/-! PROOFS. The arbiter's grant, and the phases of an attempt up to its check character (R126, R129 to R134). -/
namespace Sys2Proof.Machine

/-! ## The arbiter's choice (R129) -/

section Arbitrate
variable {s : State}

theorem arbitrate_entry {e : Entry} (he : s.forwardCandidate = some e)
    (h : s.maintenanceCandidate = none ∨ s.sport.prefer = .forwarding) : s.arbitrate = s.grantEntry e := by
  obtain h | h := h
  · simp only [State.arbitrate, h, he]
  · cases hm : s.maintenanceCandidate <;> simp only [State.arbitrate, h, hm, he]

theorem arbitrate_maintenance {d : DomainId} {m : Maintenance} (hm : s.maintenanceCandidate = some (d, m))
    (h : s.forwardCandidate = none ∨ s.sport.prefer = .maintenance) : s.arbitrate = s.grantMaintenance d m := by
  obtain h | h := h
  · simp only [State.arbitrate, h, hm]
  · cases he : s.forwardCandidate <;> simp only [State.arbitrate, h, hm, he]

theorem arbitrate_none (he : s.forwardCandidate = none) (hm : s.maintenanceCandidate = none) : s.arbitrate = s := by
  simp only [State.arbitrate, he, hm]

theorem exec_grant_busy {a : Attempt} (h : s.sport.attempt = some a) : exec .grant s = .next s := by
  show execGrant s = _
  simp only [execGrant, h]
  exact finishEvent_self s

theorem exec_grant_free (h : s.sport.attempt = none) : exec .grant s = .next s.arbitrate := by
  show execGrant s = _
  simp only [execGrant, h]
  exact finishEvent_same _ _ (by simp)

end Arbitrate

/-! ## What a grant leaves (R130, R131) -/

/-- An attempt begun on an S-port that differs from the granting one in its retry notes alone. -/
theorem granted_beginAttempt {s u : State} {notes : Vector (Option RetryNote) 8}
    (hu : u.sport = { s.sport with notes := notes }) (o : Originator) (c : Command) (d : Option DomainId)
    (shadow : Bool)
    (n : Nat) (other : WorkClass) :
    Granted s (u.beginAttempt (s.newExchange o c d shadow n) other) o c d shadow n other notes := by
  have hbegin := beginAttempt_sport u (s.newExchange o c d shadow n) other (by rw [hu]; rfl)
  rw [hu] at hbegin
  cases d <;> exact hbegin

theorem granted_grantEntry {s : State} {e : Entry} {snap : Snapshot} (hsnap : e.snapshot = some snap) :
    Granted s (s.grantEntry e) (.entry e.tag) e.cmd snap.domain snap.shadow (e.attempts + 1) .maintenance
      s.sport.notes := by
  have hdomain : e.domain? = snap.domain := by rw [Entry.domain?, hsnap]; rfl
  have hshadow : (e.snapshot.map (·.shadow)).getD false = snap.shadow := by rw [hsnap]; rfl
  have hnew : (s.setEntryState e.tag (.active false)).newExchange = s.newExchange := rfl
  rw [State.grantEntry, hdomain, hshadow]
  exact granted_beginAttempt (by simp) _ _ _ _ _ _

theorem granted_grantMaintenance (s : State) (d : DomainId) (m : Maintenance) :
    Granted s (s.grantMaintenance d m) m.originator m.cmd (some d) false m.attempt .forwarding
      (s.sport.notes.set d none) :=
  granted_beginAttempt (by simp [State.clearNote]) _ _ _ _ _ _

theorem grantEntry_touches (s : State) (e : Entry) : Frame [.entries, .sport] s (s.grantEntry e) := by
  intro b hb
  cases b <;> simp_all [State.agrees]

theorem grantMaintenance_touches (s : State) (d : DomainId) (m : Maintenance) :
    Frame [.domains, .sport] s (s.grantMaintenance d m) := by
  intro b hb
  cases b <;> simp_all [State.agrees]

/-- Settles O46, by the candidates present and the alternation flag. -/
theorem grantTakesTheArbitersChoice : Obligations.GrantTakesTheArbitersChoice := by
  refine fun s => ⟨fun a ha => exec_grant_busy ha, fun hfree hf hm => ?none, fun e snap hfree he hsnap hclass => ?entry,
    fun d o c n hfree hdue hlowest hclass => ?maintenance⟩
  case none =>
    rw [exec_grant_free hfree, arbitrate_none (forwardCandidate_none s hf) (maintenanceCandidate_none s hm)]
  case entry =>
    have hchoice := arbitrate_entry (forwardCandidate_some s e he) (hclass.imp_left (maintenanceCandidate_none s))
    exact ⟨_, by rw [exec_grant_free hfree, hchoice], grantEntry_touches s e, rfl, granted_grantEntry hsnap⟩
  case maintenance =>
    have hchoice := arbitrate_maintenance (maintenanceCandidate_some s d o c n hdue hlowest)
      (hclass.imp_left (forwardCandidate_none s))
    refine ⟨_, by rw [exec_grant_free hfree, hchoice], grantMaintenance_touches s d _, fun x hx => ?_, fun p g hs => ?_,
      fun k g hs => ?_, granted_grantMaintenance s d _⟩
    · rw [State.dom_grantMaintenance]
      exact State.dom_setDomState_ne s _ (by simpa using hx)
    · rw [State.dom_grantMaintenance, State.dom_setDomState_self, hs]
      rfl
    · rw [State.dom_grantMaintenance, State.dom_setDomState_self, hs]
      rfl

/-! ## The phases of an attempt (R131 to R133) -/

section Phases
variable {s : State} {x : Exchange}

theorem exec_recoveryGapReached_gap {idle : Nat} (h : InPhase s .gap x) (hl : s.sport.line = .mark idle) :
    exec .recoveryGapReached s = .next (s.enterPhase .send x .space) := by
  show execRecoveryGapReached s = _
  simp only [execRecoveryGapReached, inPhase_some s .gap x h, hl, LineState.isIdle, if_true]
  exact finishEvent_same _ _ rfl

theorem exec_commandComplete_send (h : InPhase s .send x) :
    exec .commandComplete s = .next (s.enterPhase .wait x (.mark 0)) := by
  show execCommandComplete s = _
  simp only [execCommandComplete, inPhase_some s .send x h]
  exact finishEvent_same _ _ rfl

theorem frameOnLine_send (h : InPhase s .send x) : s.sport.frameOnLine = some (segmentFrame x.cmd) := by
  rw [SPort.frameOnLine, inPhase_some s .send x h]
  rfl

theorem exec_answerCharacterStart_wait (h : InPhase s .wait x) (hl : s.sport.line.takesCharacter = true) :
    exec .answerCharacterStart s = .next (s.enterPhase .receive x .space) := by
  show execAnswerCharacterStart s = _
  simp only [execAnswerCharacterStart, inPhase_some s .wait x h, hl, if_true]
  exact finishEvent_same _ _ rfl

/-! ## The characters of an answer (R134) -/

/-- A good character that neither ends nor fails the answer is taken. -/
theorem exec_answerCharacter_taken {data : Byte} (h : InPhase s .receive x) (hl : s.sport.line.takesCharacter = true)
    (hlead : x.answer.taken = 0 → data = 0xB5) (hmore : x.answer.taken ≠ x.answer.length.toNat + 3) :
    exec (.answerCharacterReceived data .good) s = .next (s.inReceive (x.take data)) := by
  have hlead' : ¬(x.answer.taken = 0 ∧ data ≠ leadAnswer) := fun hn => hn.2 (hlead hn.1)
  have hgoes : (x.take data).answer.complete = false := Answer.take_goes_on x.answer x.cmd data hmore
  show execAnswerCharacterReceived data .good s = _
  simp only [execAnswerCharacterReceived, inPhase_some s .receive x h, hl, if_true, State.answerMarked,
    State.answerCharacter, if_neg hlead', State.afterAnswer, hgoes]
  exact finishEvent_same _ _ rfl

theorem runAnswer_nil (s : State) : runAnswer s [] = .next s := rfl

theorem runAnswer_cons {t : State} {b : Byte} (l : List Byte)
    (h : exec (.answerCharacterReceived b .good) s = .next t) : runAnswer s (b :: l) = runAnswer t l := by
  simp only [runAnswer, List.map_cons, runCommands, h]

end Phases

/-- What the record holds of an answer to `c` after its status, its length and these payload characters (R134). -/
def answerTaken (c : Command) (status length : Byte) (payload : List Byte) : Answer :=
  { taken := payload.length + 3
    status := status
    length := length
    sum := checkSum (status :: length :: payload)
    payload := if c.op = 0x01 then payload.take 32 else [] }

theorem checkSum_answer (status length b : Byte) (payload : List Byte) :
    checkSum (status :: length :: payload) + b = checkSum (status :: length :: (payload ++ [b])) := by
  rw [← List.cons_append, ← List.cons_append, checkSum_append, checkSum_singleton]

/-- A READ, and no other command, keeps up to 32 payload characters (R125). -/
theorem answerTaken_keeps (c : Command) (status length b : Byte) (payload : List Byte)
    (h : payload.length < length.toNat) :
    (answerTaken c status length (payload ++ [b])).payload =
      if 3 ≤ payload.length + 3 ∧ payload.length + 3 < length.toNat + 3
          ∧ (answerTaken c status length payload).payload.length < 32 ∧ c.op = 0x01
        then (answerTaken c status length payload).payload ++ [b]
      else (answerTaken c status length payload).payload := by
  by_cases hop : c.op = 0x01
  · have hpayload : ∀ l, (answerTaken c status length l).payload = l.take 32 := fun l => if_pos hop
    rw [hpayload, hpayload]
    by_cases hroom : payload.length < 32
    · have htake : payload.take 32 = payload := List.take_of_length_le (by omega)
      rw [htake, if_pos ⟨by omega, by omega, hroom, hop⟩]
      exact List.take_of_length_le (by rw [List.length_append, List.length_singleton]; omega)
    · rw [if_neg (by rw [List.length_take]; omega)]
      exact List.take_append_of_le_length (by omega)
  · have hpayload : ∀ l, (answerTaken c status length l).payload = [] := fun l => if_neg hop
    rw [hpayload, hpayload, if_neg fun hn => hop hn.2.2.2]

theorem Answer.take_taken {c : Command} {status length : Byte} {payload : List Byte} (b : Byte)
    (h : payload.length < length.toNat) :
    (answerTaken c status length payload).take c b = answerTaken c status length (payload ++ [b]) := by
  have htaken : payload.length + 3 + 1 = (payload ++ [b]).length + 3 := by simp
  rw [Answer.take_eq]
  refine Answer.mk.injEq .. ▸ ⟨htaken, if_neg (by simp [answerTaken]), if_neg (by simp [answerTaken]),
    (answerTaken_keeps c status length b payload h).symm, ?_⟩
  exact (if_neg (by simp [answerTaken])).trans (checkSum_answer status length b payload)

section Answer
variable {s : State} {x : Exchange}

/-- The payload characters of an answer, up to its check character. -/
theorem runAnswer_payload (status length : Byte) (pre chars : List Byte)
    (h : pre.length + chars.length ≤ length.toNat) :
    runAnswer (s.inReceive { x with answer := answerTaken x.cmd status length pre }) chars =
      .next (s.inReceive { x with answer := answerTaken x.cmd status length (pre ++ chars) }) := by
  induction chars generalizing pre with
  | nil => rw [List.append_nil, runAnswer_nil]
  | cons b chars ih =>
    rw [List.length_cons] at h
    have hb := exec_answerCharacter_taken (data := b)
      (s.inReceive_inPhase { x with answer := answerTaken x.cmd status length pre }) rfl
      (fun hn => absurd hn (by simp [answerTaken])) (by simp only [answerTaken]; omega)
    rw [runAnswer_cons chars hb, State.inReceive_inReceive, Exchange.take]
    rw [Answer.take_taken b (by omega), ih _ (by rw [List.length_append, List.length_singleton]; omega),
      List.append_assoc, List.singleton_append]

/-- An answer up to its check character. -/
theorem runAnswer_answer {status length : Byte} {payload : List Byte} (h : InPhase s .receive x)
    (hl : s.sport.line.takesCharacter = true)
    (hempty : x.answer = { taken := 0, status := 0, length := 0, payload := [], sum := 0 })
    (hlen : payload.length = length.toNat) :
    runAnswer s (0xB5 :: status :: length :: payload) =
      .next (s.inReceive { x with answer := answerTaken x.cmd status length payload }) := by
  have hlead := exec_answerCharacter_taken (data := 0xB5) h hl (fun _ => rfl) (by rw [hempty]; decide)
  have hstatus := exec_answerCharacter_taken (data := status) (s.inReceive_inPhase (x.take 0xB5)) rfl
    (fun hn => absurd hn (by simp [Exchange.take, hempty, Answer.take_eq]))
    (by simp [Exchange.take, hempty, Answer.take_eq])
  have hlength := exec_answerCharacter_taken (data := length)
    ((s.inReceive (x.take 0xB5)).inReceive_inPhase ((x.take 0xB5).take status)) rfl
    (fun hn => absurd hn (by simp [Exchange.take, hempty, Answer.take_eq]))
    (by simp [Exchange.take, hempty, Answer.take_eq])
  have hthree : ((x.take 0xB5).take status).take length = { x with answer := answerTaken x.cmd status length [] } := by
    simp [Exchange.take, hempty, Answer.take_eq, answerTaken, checkSum]
  rw [runAnswer_cons _ hlead, runAnswer_cons _ hstatus, runAnswer_cons _ hlength, State.inReceive_inReceive,
    State.inReceive_inReceive, hthree]
  exact runAnswer_payload status length [] payload (by simp [hlen])

end Answer

/-- Settles O47, phase by phase. -/
theorem attemptMovesThroughItsPhases : Obligations.AttemptMovesThroughItsPhases := fun s x =>
  ⟨fun _ h hl => exec_recoveryGapReached_gap h hl, fun h => ⟨exec_commandComplete_send h, frameOnLine_send h⟩,
    fun h hl => exec_answerCharacterStart_wait h hl,
    fun data h hl hlead hmore => by
      rw [exec_answerCharacter_taken h hl hlead hmore, Exchange.take, Answer.take_eq],
    fun _ _ _ h hl hempty hlen => runAnswer_answer h hl hempty hlen⟩

end Sys2Proof.Machine
end

section
/-! PROOFS. The end of an attempt: what its outcome does to an entry, an orphan, a check probe and a replay write (R47,
R88, R115 to R117, R135 to R142). -/
namespace Sys2Proof.Machine

/-! ## The outcome an entry takes (R47, R142) -/

section EntryOutcome
variable {s : State} {e : Entry} {abort : Bool} {o : AttemptOutcome}

theorem AttemptOutcome.retryable_iff (o : AttemptOutcome) :
    o.retryable = true ↔ o = .noResponse ∨ o = .lineFault ∨ o = .answerError := by
  cases o <;> simp [AttemptOutcome.retryable]

theorem AttemptOutcome.isOk_of_retryable (h : o.retryable = true) : o.isOk = false := by
  cases o <;> simp_all [AttemptOutcome.retryable, AttemptOutcome.isOk]

theorem AttemptOutcome.isOk_eq_false (h : ∀ payload, o ≠ .ok payload) : o.isOk = false := by
  cases o with
  | ok payload => exact absurd rfl (h payload)
  | targetNak | noResponse | lineFault | answerError => rfl

theorem entryOutcome_aborted (h : abort = true) : s.entryOutcome e abort o = s.finishEntry e.tag .aborted [] := if_pos h

theorem entryOutcome_ok (h : abort = false) (payload : List Byte) :
    s.entryOutcome e abort (.ok payload) = s.finishEntry e.tag .ok (if e.cmd.op = 0x01 then payload else []) := by
  subst h
  rfl

theorem entryOutcome_retried (h : abort = false) (hr : o.retryable = true)
    (hlimit : e.attempts < s.sport.retryCount.toNat) :
    s.entryOutcome e abort o =
      if s.domainServes e.domain? then s.requeue e.tag else s.finishEntry e.tag .domainFault [] := by
  subst h
  simp [State.entryOutcome, AttemptOutcome.isOk_of_retryable hr, hr, hlimit]

theorem entryOutcome_final (h : abort = false) (hr : o.retryable = true)
    (hlimit : ¬e.attempts < s.sport.retryCount.toNat) :
    s.entryOutcome e abort o = (s.finishEntry e.tag o.status []).raise .segmentError := by
  subst h
  simp [State.entryOutcome, AttemptOutcome.isOk_of_retryable hr, hr, hlimit, State.segmentError]

theorem entryOutcome_targetNak (h : abort = false) :
    s.entryOutcome e abort .targetNak = s.finishEntry e.tag .targetNak [] := by
  subst h
  rfl

/-- SEGMENT_ERROR is set where a retryable failure is final, and no other class is (R142). -/
theorem entryOutcome_status (k : EventClass) :
    (s.entryOutcome e abort o).events.status.has k = true ↔
      (s.events.status.has k = true
        ∨ (k = .segmentError ∧ abort = false ∧ o.retryable = true
            ∧ ¬(o.retryable = true ∧ e.attempts < s.sport.retryCount.toNat))) := by
  by_cases ha : abort = true
  · rw [entryOutcome_aborted ha]
    simp [ha]
  have ha : abort = false := by simpa using ha
  by_cases hr : o.retryable = true
  · by_cases hlimit : e.attempts < s.sport.retryCount.toNat
    · have hevents : (s.entryOutcome e abort o).events = s.events := by
        rw [entryOutcome_retried ha hr hlimit]
        split <;> simp
      simp [hevents, hr, hlimit]
    · rw [entryOutcome_final ha hr hlimit, raise_has]
      simp [ha, hr, Nat.le_of_not_lt hlimit]
  · have hevents : (s.entryOutcome e abort o).events = s.events := by
      cases o with
      | ok payload => rw [entryOutcome_ok ha]; simp
      | targetNak => rw [entryOutcome_targetNak ha]; simp
      | noResponse | lineFault | answerError => exact absurd rfl hr
    simp [hevents, hr]

theorem entryOutcome_events :
    (s.entryOutcome e abort o).events.enable = s.events.enable
      ∧ (s.entryOutcome e abort o).events.inputs = s.events.inputs :=
  ⟨(Raises.entryOutcome s e abort o).enable, (Raises.entryOutcome s e abort o).inputs⟩

end EntryOutcome

/-! ## The offer and the drain at an attempt's end (R106, R83) -/

/-- An offer for capture and the drain of a domain, after `u`: what they leave of `u`, the store, the domains and the
classes they set. -/
theorem offer_drain {s u : State} {x : Exchange} {o : AttemptOutcome} (d? : Option DomainId)
    (hd : u.domains = s.domains) (hh : u.shadow = s.shadow) :
    let t := announce s ((u.offerOutcome x o).drainDomain d?)
    t.shadow = storeAfter s x o ∧ DrainedOnly s t d?
      ∧ t.events.enable = u.events.enable ∧ t.events.inputs = u.events.inputs
      ∧ ∀ k, t.events.status.has k = true ↔
          (u.events.status.has k = true ∨ k ∈ classesOfOffer s x o
            ∨ (k = .domainDown ∧ ∃ d, d? = some d ∧ Drains s t d)) := by
  obtain ⟨hshadow, hoffer⟩ := offerOutcome_eq s u x o hd hh
  obtain ⟨henable, hinputs⟩ := offerOutcome_events u x o
  obtain ⟨hdrained, hstatus, henable', hinputs'⟩ := drainDomain_eq s (u.offerOutcome x o) d? (by simp [hd])
  refine ⟨by simp [hshadow], fun d => ?_, by simp [henable', henable], by simp [hinputs', hinputs], fun k => ?_⟩
  · rw [drains_announce, dom_announce]
    exact hdrained d
  · simp only [announce_events, drains_announce]
    rw [hstatus, hoffer, or_assoc]

theorem endsAttempt_exec {c : Instr} {s t : State} {x : Exchange} {o : AttemptOutcome} {line : LineState}
    (h : EndsAttempt c s x o line) (hd : (s.freed line o).deliver x o = t) : exec c s = .next (announce s t) := by
  rw [endsAttempt_eq c s x o line h, hd]
  rfl

section Entry
variable {s : State} {x : Exchange} {o : AttemptOutcome} {line : LineState} {e : Entry} {abort : Bool}

theorem deliver_entry (ho : x.originator = .entry e.tag) (hfind : s.entry? e.tag = some e)
    (hactive : e.state = .active abort) :
    s.deliver x o = ((s.entryOutcome e abort o).offerOutcome x o).drainDomain e.domain? := by
  simp only [State.deliver, ho, State.deliverEntry, hfind, hactive]

/-- The state an ENTRY attempt's end leaves, notice-pending apart (R47, R135). -/
def State.entryEnded (s : State) (x : Exchange) (o : AttemptOutcome) (line : LineState) (e : Entry) (abort : Bool) :
    State :=
  (((s.freed line o).entryOutcome e abort o).offerOutcome x o).drainDomain e.domain?

theorem State.entryEnded_frame :
    (s.entryEnded x o line e abort).uport = s.uport
      ∧ (s.entryEnded x o line e abort).entries = ((s.freed line o).entryOutcome e abort o).entries
      ∧ (s.entryEnded x o line e abort).replyQueue = ((s.freed line o).entryOutcome e abort o).replyQueue
      ∧ (s.entryEnded x o line e abort).parkLimit = s.parkLimit ∧ (s.entryEnded x o line e abort).windows = s.windows
      ∧ (s.entryEnded x o line e abort).hits = s.hits ∧ (s.entryEnded x o line e abort).pg = s.pg
      ∧ (s.entryEnded x o line e abort).straps = s.straps ∧ (s.entryEnded x o line e abort).pending = s.pending
      ∧ (s.entryEnded x o line e abort).sport = s.sport.ended line o := by
  simp [State.entryEnded]

theorem State.entryEnded_touches :
    Frame [.uport, .entries, .replyQueue, .domains, .shadow, .sport, .events] s (s.entryEnded x o line e abort) := by
  obtain ⟨-, -, -, hpark, hwindows, hhits, hpg, hstraps, hpending, -⟩ :=
    s.entryEnded_frame (x := x) (o := o) (line := line) (e := e) (abort := abort)
  intro b hb
  cases b <;> simp_all [State.agrees]

/-- An entry's end answers it as its outcome does. -/
theorem answered_entryEnded {status : Status} {reply : List Byte}
    (h : Answered (s.freed line o) ((s.freed line o).entryOutcome e abort o) e.tag status reply) :
    Answered s (announce s (s.entryEnded x o line e abort)) e.tag status reply := by
  obtain ⟨hentries, hqueue⟩ := h
  obtain ⟨-, hentries', hqueue', -⟩ := s.entryEnded_frame (x := x) (o := o) (line := line) (e := e) (abort := abort)
  refine ⟨?_, ?_⟩
  · rw [announce_entries, hentries', hentries]
    rfl
  · rw [announce_replyQueue, hqueue', hqueue]
    rfl

end Entry

theorem domainServes_freed (s : State) (line : LineState) (o : AttemptOutcome) (d? : Option DomainId) :
    (s.freed line o).domainServes d? = true ↔ ∀ d, d? = some d → (s.dom d).state.inService = true :=
  domainServes_iff (s.freed line o) d?

/-- Settles O48, by the first case of R47 that applies. -/
theorem entryTakesItsOutcome : Obligations.EntryTakesItsOutcome := by
  refine ⟨⟨rfl, rfl, fun _ => ⟨rfl, rfl⟩⟩, fun c s x o line e abort hends ho hfind hactive => ?_⟩
  have hexec := endsAttempt_exec hends (deliver_entry (s := s.freed line o) ho hfind hactive)
  obtain ⟨huport, hentries, hqueue, -, -, -, -, -, -, hsport⟩ :=
    s.entryEnded_frame (x := x) (o := o) (line := line) (e := e) (abort := abort)
  obtain ⟨henable₀, hinputs₀⟩ := entryOutcome_events (s := s.freed line o) (e := e) (abort := abort) (o := o)
  obtain ⟨hshadow, hdrained, henable, hinputs, hstatus⟩ := offer_drain (s := s) (x := x) (o := o)
    (u := (s.freed line o).entryOutcome e abort o) e.domain? (by simp) (by simp)
  refine ⟨_, hexec, frame_announce _ _ _ (by simp) State.entryEnded_touches, uportKept_announce _ _ huport, ?_,
    fun ha => ?aborted, fun ha payload hok => ?ok, fun ha hr hserves => ?again, fun ha hr hserves => ?fault,
    fun hfinal => ?final, fun ha hnak => ?nak, hshadow, hdrained, henable.trans henable₀, hinputs.trans hinputs₀,
    fun k => ?status⟩
  · rw [announce_sport]
    exact hsport
  case aborted =>
    refine answered_entryEnded ?_
    rw [entryOutcome_aborted ha]
    exact answered_finishEntry _ _ _ _
  case ok =>
    subst hok
    refine answered_entryEnded ?_
    rw [entryOutcome_ok ha]
    exact answered_finishEntry _ _ _ _
  case again =>
    have hserves' := (domainServes_freed s line o e.domain?).2 hserves
    have hout := entryOutcome_retried (s := s.freed line o) (e := e) ha hr.1 hr.2
    rw [if_pos hserves'] at hout
    rw [hout] at hentries hqueue
    rw [announce_entries, announce_replyQueue]
    exact ⟨hentries, hqueue⟩
  case fault =>
    have hserves' : ¬(s.freed line o).domainServes e.domain? = true := fun h =>
      hserves ((domainServes_freed s line o e.domain?).1 h)
    have hout := entryOutcome_retried (s := s.freed line o) (e := e) ha hr.1 hr.2
    rw [if_neg hserves'] at hout
    refine answered_entryEnded ?_
    rw [hout]
    exact answered_finishEntry _ _ _ _
  case final =>
    obtain ⟨ha, hr, hnot⟩ := hfinal
    refine answered_entryEnded ?_
    rw [entryOutcome_final (s := s.freed line o) ha hr fun hl => hnot ⟨hr, hl⟩]
    exact answered_finishEntry _ _ _ _
  case nak =>
    subst hnak
    refine answered_entryEnded ?_
    rw [entryOutcome_targetNak ha]
    exact answered_finishEntry _ _ _ _
  case status =>
    refine (hstatus k).trans ?_
    rw [entryOutcome_status, or_assoc]
    rfl

/-! ## An orphan's end (R139) -/

theorem deliver_orphan {s : State} {x : Exchange} {o : AttemptOutcome} (ho : x.originator = .orphan) :
    s.deliver x o = (s.offerOutcome x o).drainDomain x.domain := by
  simp only [State.deliver, ho, State.deliverOrphan]

theorem orphanEnded_touches (s : State) (x : Exchange) (o : AttemptOutcome) (line : LineState) :
    Frame [.uport, .domains, .shadow, .sport, .events] s
      (((s.freed line o).offerOutcome x o).drainDomain x.domain) := by
  intro b hb
  cases b <;> simp_all [State.agrees]

/-- Settles O49: the offer and the drain alone. -/
theorem orphanEndsWithoutAnEntry : Obligations.OrphanEndsWithoutAnEntry := by
  intro c s x o line hends ho
  obtain ⟨hshadow, hdrained, henable, hinputs, hstatus⟩ := offer_drain (s := s) (x := x) (o := o)
    (u := s.freed line o) x.domain (by simp) (by simp)
  exact ⟨_, endsAttempt_exec hends (deliver_orphan ho), frame_announce _ _ _ (by simp) (orphanEnded_touches s x o line),
    uportKept_announce _ _ (by simp), by simp, hshadow, hdrained, henable, hinputs, hstatus⟩

/-! ## Maintenance work's end (R88, R93, R115 to R117, R138) -/

section Maintenance
variable {s : State} {x : Exchange} {o : AttemptOutcome} {line : LineState} {d : DomainId}

/-- An outcome that is ignored leaves the S-port FREE and the outcome counted, and nothing else. -/
theorem ends_ignored {c : Instr} (hends : EndsAttempt c s x o line)
    (h : (s.freed line o).deliver x o = s.freed line o) :
    ∃ t, exec c s = .next t ∧ Frame [.sport] s t ∧ t.sport = s.sport.ended line o := by
  refine ⟨s.freed line o, ?_, fun b hb => ?_, by simp⟩
  · rw [endsAttempt_exec hends h, announce_same _ _ (by simp)]
  · cases b <;> simp_all [State.agrees]

/-- An outcome that is retried leaves a retry note (R138). -/
theorem ends_retried {c : Instr} {w : MaintenanceWork} {n : Nat} (hends : EndsAttempt c s x o line)
    (h : (s.freed line o).deliver x o = (s.freed line o).setNote d w n) :
    ∃ t, exec c s = .next t ∧ Frame [.sport] s t
      ∧ t.sport =
        { s.sport.ended line o with notes := s.sport.notes.set d (some { work := w, attempt := n }) } := by
  refine ⟨(s.freed line o).setNote d w n, ?_, fun b hb => ?_, by simp [State.setNote]⟩
  · rw [endsAttempt_exec hends h, announce_same _ _ (by simp)]
  · cases b <;> simp_all [State.agrees]

theorem maintenanceRetries_iff (s : State) (x : Exchange) (o : AttemptOutcome) :
    s.maintenanceRetries x o = true ↔ o.retryable = true ∧ x.attempt ≤ s.sport.retryCount.toNat := by
  simp [State.maintenanceRetries]

/-! ### A check probe -/

theorem deliver_check_left (ho : x.originator = .check d) (h : ∀ p, (s.dom d).state ≠ .checking p true) :
    s.deliver x o = s := by
  simp only [State.deliver, ho, State.deliverCheck]
  split
  next p hp => exact absurd hp (h p)
  all_goals rfl

theorem deliver_check_retried {p : Byte} (ho : x.originator = .check d) (hs : (s.dom d).state = .checking p true)
    (hr : o.retryable = true ∧ x.attempt ≤ s.sport.retryCount.toNat) :
    s.deliver x o = s.setNote d .probe (x.attempt + 1) := by
  simp only [State.deliver, ho, State.deliverCheck, hs, (maintenanceRetries_iff s x o).2 hr, if_true]

theorem deliver_check_final {p : Byte} (ho : x.originator = .check d) (hs : (s.dom d).state = .checking p true)
    (hr : ¬(o.retryable = true ∧ x.attempt ≤ s.sport.retryCount.toNat)) :
    s.deliver x o =
      if o.isOk then (s.clearNote d).enterRestoring d else finishFaulted s (s.attemptFails d .checkFailed) := by
  have hr' : ¬s.maintenanceRetries x o = true := fun h => hr ((maintenanceRetries_iff s x o).1 h)
  simp only [State.deliver, ho, State.deliverCheck, hs, if_neg hr']

/-- What ends a domain's maintenance work for good does outside the domain, its note and its entries. -/
theorem maintenanceEnded_touches {t : State} (hu : t.uport = s.uport) (hp : t.parkLimit = s.parkLimit)
    (hw : t.windows = s.windows) (hh : t.hits = s.hits) (hpg : t.pg = s.pg) (hsh : t.shadow = s.shadow)
    (hst : t.straps = s.straps) (hpe : t.pending = s.pending) :
    Frame [.uport, .entries, .replyQueue, .domains, .sport, .events] s (announce s t) ∧ UportKept s (announce s t) := by
  refine ⟨frame_announce _ _ _ (by simp) fun b hb => ?_, uportKept_announce _ _ hu⟩
  cases b <;> simp_all [State.agrees]

/-! ### A replay write -/

theorem deliver_replay_left {key : Key} (ho : x.originator = .replay d key)
    (h : ∀ k, (s.dom d).state ≠ .restoring k true) : s.deliver x o = s := by
  simp only [State.deliver, ho, State.deliverReplay]
  split
  next k hk => exact absurd hk (h k)
  all_goals rfl

theorem deliver_replay_retried {key k : Key} (ho : x.originator = .replay d key)
    (hs : (s.dom d).state = .restoring k true) (hr : o.retryable = true ∧ x.attempt ≤ s.sport.retryCount.toNat) :
    s.deliver x o = s.setNote d (.replay k) (x.attempt + 1) := by
  simp only [State.deliver, ho, State.deliverReplay, hs, (maintenanceRetries_iff s x o).2 hr, if_true]

theorem deliver_replay_final {key k : Key} (ho : x.originator = .replay d key)
    (hs : (s.dom d).state = .restoring k true) (hr : ¬(o.retryable = true ∧ x.attempt ≤ s.sport.retryCount.toNat)) :
    s.deliver x o = (s.clearNote d).replayOutcome d k o := by
  have hr' : ¬s.maintenanceRetries x o = true := fun h => hr ((maintenanceRetries_iff s x o).1 h)
  simp only [State.deliver, ho, State.deliverReplay, hs, if_neg hr']

theorem replayOutcome_ok {k : Key} (h : o.isOk = true) : s.replayOutcome d k o = s.advanceReplay d k := if_pos h

theorem replayOutcome_strict {k : Key} (h : o.isOk = false) (hp : (s.dom d).config.policy = .strict) :
    s.replayOutcome d k o = finishFaulted s (s.attemptFails d .restoreFailed) := by
  simp [State.replayOutcome, h, hp]

theorem replayOutcome_lenient {k : Key} (h : o.isOk = false) (hp : (s.dom d).config.policy = .lenient) :
    s.replayOutcome d k o = (s.raise .restoreSkip).advanceReplay d k := by
  simp [State.replayOutcome, h, hp]

end Maintenance

/-! ### The replay position advances (R115) -/

section Advance
variable {s u : State} {d : DomainId} {k : Key}

theorem advanceReplay_next {next : Key} (h : follower k (u.shadow.list d) = some next) :
    u.advanceReplay d k = u.setDomState d (.restoring next false) := by
  simp only [State.advanceReplay, h]

theorem advanceReplay_last (h : follower k (u.shadow.list d) = none) : u.advanceReplay d k = u.reachOn d := by
  simp only [State.advanceReplay, h]

variable (hd : u.domains = s.domains) (he : u.entries = s.entries) (hq : u.replyQueue = s.replyQueue)
  (hv : u.events = s.events) (cs : List EventClass)
include hd he hq hv

/-- To the next entry, after classes are set. -/
theorem advanced_next {next : Key} (hf : follower k (u.shadow.list d) = some next) :
    let t := announce s ((u.raiseAll cs).advanceReplay d k)
    t.dom d = { s.dom d with state := .restoring next false } ∧ OtherDomainsKept [d] s t ∧ t.entries = s.entries
      ∧ t.replyQueue = s.replyQueue ∧ RaisedOnly s t cs := by
  have hdom : ∀ x, u.dom x = s.dom x := fun x => by simp [State.dom, hd]
  rw [advanceReplay_next (by simpa using hf)]
  refine ⟨by simp [hdom], (otherDomainsKept_announce _ _ _).2 fun x hx => ?_, by simp [he], by simp [hq], ?_⟩
  · rw [State.dom_setDomState_ne _ _ (by simpa using hx), State.dom_raiseAll, hdom]
  · simp [RaisedOnly, State.raiseAll_status, hv]

/-- Past the tail, after classes are set: the domain reaches ON (R90). -/
theorem advanced_last (hf : follower k (u.shadow.list d) = none) :
    let t := announce s ((u.raiseAll cs).advanceReplay d k)
    OtherDomainsKept [d] s t
      ∧ t.dom d =
        { s.dom d with
          state := .on (loadedIdle (s.dom d).config), attempt := 0, pendingWake := false,
          wakeCount := satInc (s.dom d).wakeCount }
      ∧ t.entries =
        s.entries.map (fun e => if e.state.isParked && e.domain? == some d then { e with state := .queued } else e)
      ∧ t.replyQueue = s.replyQueue ∧ RaisedOnly s t (cs ++ [.domainUp]) := by
  have hdom : ∀ x, u.dom x = s.dom x := fun x => by simp [State.dom, hd]
  rw [advanceReplay_last (by simpa using hf)]
  refine ⟨(otherDomainsKept_announce _ _ _).2 fun x hx => ?_, ?_, ?_, by simp [hq], ?_⟩
  · rw [State.dom_reachOn, if_neg (by simpa using hx), State.dom_raiseAll, hdom]
  · simp [State.dom_reachOn, Domain.reachedOn, hdom, idleLoad_eq]
  · simp [State.reachOn, State.release, he]
  · simp [RaisedOnly, State.reachOn, State.raise, State.raiseAll_status, hv, List.foldl_append]

end Advance

/-- A wake attempt that fails at the end of a maintenance attempt, `u` being the state before it fails. -/
theorem attemptFailed_ends {s u : State} {d : DomainId} (cause : FaultCause) (hf : (s.dom d).state ≠ .fault)
    (hd : u.domains = s.domains) (he : u.entries = s.entries) (hq : u.replyQueue = s.replyQueue)
    (hv : u.events = s.events) : AttemptFailed s (announce s (finishFaulted u (u.attemptFails d cause))) d cause := by
  have hfaulted : faultedEntry u (u.attemptFails d cause) = faultedEntry s (u.attemptFails d cause) := by
    have hdom : ∀ x, u.dom x = s.dom x := fun x => by simp [State.dom, hd]
    simp only [funext_iff, faultedEntry, hdom, implies_true]
  rw [finishFaulted, hfaulted, ← finishFaulted]
  exact (attemptFailed_announce s _ d cause).2 (attemptFailed s u d cause hf hd he hq hv)

/-- Settles O50, by the domain's state and the outcome. -/
theorem checkProbeTakesItsOutcome : Obligations.CheckProbeTakesItsOutcome := by
  intro c s x o line d hends ho
  refine ⟨fun hleft => ends_ignored hends (deliver_check_left ho hleft), fun p hs =>
    ⟨fun hr => ends_retried hends (deliver_check_retried (s := s.freed line o) ho hs hr), fun hr => ?final⟩⟩
  case final =>
    have hdeliver := deliver_check_final (s := s.freed line o) ho hs hr
    have hnotFault : (s.dom d).state ≠ .fault := by simp [hs]
    by_cases hok : ∃ payload, o = .ok payload
    · obtain ⟨payload, rfl⟩ := hok
      obtain ⟨hframe, hkept⟩ := maintenanceEnded_touches (s := s)
        (t := ((s.freed line (.ok payload)).clearNote d).enterRestoring d) (by simp) (by simp) (by simp) (by simp)
        (by simp) (by simp) (by simp) (by simp)
      refine ⟨_, endsAttempt_exec hends hdeliver, hframe, hkept, ?_, fun _ => ?_, fun hno => absurd rfl (hno payload)⟩
      · simp [AttemptOutcome.isOk, State.clearNote]
      · exact (enteredRestoring_announce s _ d).2
          (enteredRestoring s _ d (by simp) (by simp) (by simp) (by simp) (by simp))
    · have hfail : ∀ payload, o ≠ .ok payload := fun payload h => hok ⟨payload, h⟩
      rw [if_neg (by simp [AttemptOutcome.isOk_eq_false hfail])] at hdeliver
      obtain ⟨hframe, hkept⟩ := maintenanceEnded_touches (s := s)
        (t := finishFaulted (s.freed line o) ((s.freed line o).attemptFails d .checkFailed)) (by simp) (by simp)
        (by simp) (by simp) (by simp) (by simp) (by simp) (by simp)
      refine ⟨_, endsAttempt_exec hends hdeliver, hframe, hkept, ?_, fun h => absurd h hok, fun _ => ?_⟩
      · simp [State.attemptFails_sport]
      · exact attemptFailed_ends .checkFailed hnotFault (by simp) (by simp) (by simp) (by simp)

/-- The S-port FREE, the outcome counted and the domain's note cleared: where a final replay outcome starts (R138). -/
def State.noteFreed (s : State) (line : LineState) (o : AttemptOutcome) (d : DomainId) : State :=
  (s.freed line o).clearNote d

@[simp] theorem State.noteFreed_frame (s : State) (line : LineState) (o : AttemptOutcome) (d : DomainId) :
    (s.noteFreed line o d).uport = s.uport ∧ (s.noteFreed line o d).entries = s.entries
      ∧ (s.noteFreed line o d).replyQueue = s.replyQueue ∧ (s.noteFreed line o d).parkLimit = s.parkLimit
      ∧ (s.noteFreed line o d).windows = s.windows ∧ (s.noteFreed line o d).hits = s.hits
      ∧ (s.noteFreed line o d).domains = s.domains ∧ (s.noteFreed line o d).pg = s.pg
      ∧ (s.noteFreed line o d).shadow = s.shadow ∧ (s.noteFreed line o d).events = s.events
      ∧ (s.noteFreed line o d).straps = s.straps ∧ (s.noteFreed line o d).pending = s.pending
      ∧ (s.noteFreed line o d).sport = { s.sport.ended line o with notes := s.sport.notes.set d none } := by
  simp [State.noteFreed, State.clearNote]

/-- What a replay write that advances the replay position leaves outside the domain and its entries (R115). -/
theorem replayAdvanced_kept (s : State) (line : LineState) (o : AttemptOutcome) (d : DomainId) (k : Key)
    (cs : List EventClass) :
    let t := announce s (((s.noteFreed line o d).raiseAll cs).advanceReplay d k)
    Frame [.uport, .entries, .replyQueue, .domains, .sport, .events] s t ∧ UportKept s t
      ∧ t.sport = { s.sport.ended line o with notes := s.sport.notes.set d none } := by
  obtain ⟨hframe, hkept⟩ := maintenanceEnded_touches (s := s)
    (t := ((s.noteFreed line o d).raiseAll cs).advanceReplay d k) (by simp) (by simp) (by simp) (by simp) (by simp)
    (by simp) (by simp) (by simp)
  exact ⟨hframe, hkept, by simp⟩

/-- Settles O51, by the domain's state, the outcome and the restore policy. -/
theorem replayWriteTakesItsOutcome : Obligations.ReplayWriteTakesItsOutcome := by
  intro c s x o line d key hends ho
  refine ⟨fun hleft => ends_ignored hends (deliver_replay_left ho hleft), fun k before after w hs hlist hw hbefore =>
    ⟨fun hr => ends_retried hends (deliver_replay_retried (s := s.freed line o) ho hs hr), fun hr => ?final⟩⟩
  case final =>
    have hnotFault : (s.dom d).state ≠ .fault := by simp [hs]
    subst hw
    have hdeliver : (s.freed line o).deliver x o = (s.noteFreed line o d).replayOutcome d w.key o :=
      deliver_replay_final ho hs hr
    have hfollower : follower w.key ((s.noteFreed line o d).shadow.list d) = after.head?.map (·.key) := by
      simp only [State.noteFreed_frame, hlist, follower_split hbefore]
    have hnext : ∀ next rest, after = next :: rest →
        follower w.key ((s.noteFreed line o d).shadow.list d) = some next.key := fun next rest h => by
      rw [hfollower, h]
      rfl
    have hlast : after = [] → follower w.key ((s.noteFreed line o d).shadow.list d) = none := fun h => by
      rw [hfollower, h]
      rfl
    have hdomains : (s.noteFreed line o d).domains = s.domains := by simp
    have hentries : (s.noteFreed line o d).entries = s.entries := by simp
    have hqueue : (s.noteFreed line o d).replyQueue = s.replyQueue := by simp
    have hevents : (s.noteFreed line o d).events = s.events := by simp
    have hpolicy : ((s.noteFreed line o d).dom d).config.policy = (s.dom d).config.policy := rfl
    by_cases hok : ∃ payload, o = .ok payload
    · have hisOk : o.isOk = true := by
        obtain ⟨payload, rfl⟩ := hok
        rfl
      rw [replayOutcome_ok hisOk] at hdeliver
      obtain ⟨hframe, hkept, hsport⟩ := replayAdvanced_kept s line o d w.key []
      refine ⟨_, endsAttempt_exec hends hdeliver, hframe, hkept, hsport,
        fun _ => ⟨fun next rest h => ?_, fun h => ?_⟩, fun hno => absurd hok (by simpa using hno),
        fun hno => absurd hok (by simpa using hno)⟩
      · exact advanced_next hdomains hentries hqueue hevents [] (hnext next rest h)
      · exact advanced_last hdomains hentries hqueue hevents [] (hlast h)
    · have hfail : o.isOk = false := AttemptOutcome.isOk_eq_false fun payload h => hok ⟨payload, h⟩
      cases hp : (s.dom d).config.policy with
      | strict =>
        rw [replayOutcome_strict hfail (hpolicy.trans hp)] at hdeliver
        obtain ⟨hframe, hkept⟩ := maintenanceEnded_touches (s := s)
          (t := finishFaulted (s.noteFreed line o d) ((s.noteFreed line o d).attemptFails d .restoreFailed)) (by simp)
          (by simp) (by simp) (by simp) (by simp) (by simp) (by simp) (by simp)
        refine ⟨_, endsAttempt_exec hends hdeliver, hframe, hkept, ?_, fun h => absurd h hok, fun _ _ => ?_,
          fun _ h => absurd h (by simp)⟩
        · simp [State.attemptFails_sport]
        · exact attemptFailed_ends .restoreFailed hnotFault hdomains hentries hqueue hevents
      | lenient =>
        rw [replayOutcome_lenient hfail (hpolicy.trans hp)] at hdeliver
        obtain ⟨hframe, hkept, hsport⟩ := replayAdvanced_kept s line o d w.key [.restoreSkip]
        refine ⟨_, endsAttempt_exec hends hdeliver, hframe, hkept, hsport, fun h => absurd h hok,
          fun _ h => absurd h (by simp), fun _ _ => ?_⟩
        cases hafter : after with
        | nil =>
          obtain ⟨hothers, hdom, htable, hreplies, hraised⟩ :=
            advanced_last hdomains hentries hqueue hevents [.restoreSkip] (hlast hafter)
          exact ⟨hothers, hreplies, fun _ _ h => absurd h (by simp), fun _ => ⟨hdom, htable, hraised⟩⟩
        | cons next rest =>
          obtain ⟨hdom, hothers, htable, hreplies, hraised⟩ :=
            advanced_next hdomains hentries hqueue hevents [.restoreSkip] (hnext next rest hafter)
          refine ⟨hothers, hreplies, fun next' rest' h => ?_, fun h => absurd h (by simp)⟩
          obtain ⟨rfl, rfl⟩ := List.cons.inj h
          exact ⟨hdom, htable, hraised⟩

end Sys2Proof.Machine
end

section
/-! PROOFS. The management space: its region map, what each region reads as, and which row serves a request (R53, R161
to R175). -/
namespace Sys2Proof.Machine

/-! ## The region map (section 9.2) -/

theorem mem_allRegions (r : Region) : r ∈ allRegions := by
  cases r <;> decide

/-- No two regions share a location. -/
theorem Region.disjoint {r r' : Region} (h : r ≠ r') :
    r.base + r.size ≤ r'.base ∨ r'.base + r'.size ≤ r.base := by
  have hall : ∀ r ∈ allRegions, ∀ r' ∈ allRegions, r ≠ r' →
      r.base + r.size ≤ r'.base ∨ r'.base + r'.size ≤ r.base := by decide
  exact hall r (mem_allRegions r) r' (mem_allRegions r') h

/-- A range that is not empty lies in the region that holds its ends (R163). -/
theorem regionOf_eq_some_iff {location length : Nat} {r : Region} (hlen : 1 ≤ length) :
    regionOf location length = some r ↔ r.base ≤ location ∧ location + length ≤ r.base + r.size := by
  have hholds : ∀ {x : Region}, regionOf location length = some x →
      x.base ≤ location ∧ location + length ≤ x.base + x.size := fun hx => by
    have h := List.find?_some hx
    rw [Bool.and_eq_true, decide_eq_true_eq, decide_eq_true_eq] at h
    exact h
  refine ⟨hholds, fun ⟨hfirst, hlast⟩ => ?_⟩
  cases hfound : regionOf location length with
  | none =>
    have h := List.find?_eq_none.1 hfound r (mem_allRegions r)
    exact absurd (by rw [Bool.and_eq_true, decide_eq_true_eq, decide_eq_true_eq]; exact ⟨hfirst, hlast⟩) h
  | some x =>
    obtain ⟨hfirst', hlast'⟩ := hholds hfound
    by_cases hx : x = r
    · rw [hx]
    · obtain h | h := Region.disjoint hx <;> omega

/-! ## What the regions read as (R165 to R171) -/

theorem list_eq_map_getD {l : List Byte} {n : Nat} (h : l.length = n) : l = (List.range n).map fun k => l.getD k 0 := by
  subst h
  refine List.ext_getElem (by simp) fun i hi _ => ?_
  simp [List.getD_eq_getElem?_getD, hi]

section RegionBytes
variable (s : State)

theorem regionByte_extConfig (i : Fin 4) {k : Nat} (hk : k < 4) :
    s.regionByte .extConfig (4 * i.val + k) = (s.events.inputs.get i).config.image.getD k 0 := by
  have hindex : Fin.ofNat 4 ((4 * i.val + k) / 4) = i := Fin.ext (by simp only [Fin.val_ofNat]; omega)
  have hoffset : (4 * i.val + k) % 4 = k := by omega
  rw [State.regionByte, hindex, hoffset]

theorem regionByte_windows (i : Fin 32) {k : Nat} (hk : k < 8) :
    s.regionByte .windows (8 * i.val + k) = (s.windows.get i).image.getD k 0 := by
  have hindex : Fin.ofNat 32 ((8 * i.val + k) / 8) = i := Fin.ext (by simp only [Fin.val_ofNat]; omega)
  have hoffset : (8 * i.val + k) % 8 = k := by omega
  rw [State.regionByte, hindex, hoffset]

theorem regionByte_domainConfig (d : DomainId) {k : Nat} (hk : k < 16) :
    s.regionByte .domainConfig (16 * d.val + k) = (s.dom d).config.image.getD k 0 := by
  have hindex : Fin.ofNat 8 ((16 * d.val + k) / 16) = d := Fin.ext (by simp only [Fin.val_ofNat]; omega)
  have hoffset : (16 * d.val + k) % 16 = k := by omega
  rw [State.regionByte, hindex, hoffset]

theorem regionByte_domainStatus (d : DomainId) {k : Nat} (hk : k < 16) :
    s.regionByte .domainStatus (16 * d.val + k) = (s.statusImage d).getD k 0 := by
  have hindex : Fin.ofNat 8 ((16 * d.val + k) / 16) = d := Fin.ext (by simp only [Fin.val_ofNat]; omega)
  have hoffset : (16 * d.val + k) % 16 = k := by omega
  rw [State.regionByte, hindex, hoffset]

/-- A table of 16-bit values reads each high byte first (R168, R169). -/
theorem halfTableByte_pair (l : List Half) (k : Nat) :
    halfTableByte l (2 * k) ++ halfTableByte l (2 * k + 1) = l.getD k 0 := by
  have hhalf : (2 * k + 1) / 2 = k := by omega
  have hodd : (2 * k + 1) % 2 ≠ 0 := by omega
  rw [halfTableByte, if_pos (by omega), Nat.mul_div_cancel_left k (by decide), halfTableByte, if_neg hodd, hhalf]
  exact joinBytes_hi_lo _

theorem toNat_mgmtAddress : s.mgmtAddress.toNat = 0x7C + s.straps.toNat := by
  have hlt := s.straps.isLt
  have hbase : (0x7C : Byte).toNat = 0x7C := rfl
  rw [State.mgmtAddress, BitVec.toNat_add, BitVec.toNat_setWidth, hbase]
  omega

/-- The input status byte: levels in its low half, marks in its high half (R167). -/
theorem inputStatus_bits (u : EventUnit) (i : Fin 4) :
    u.inputStatus.getLsbD i.val = (u.inputs.get i).filter.level
      ∧ u.inputStatus.getLsbD (4 + i.val) = (u.inputs.get i).seen := by
  have hcases : i = 0 ∨ i = 1 ∨ i = 2 ∨ i = 3 := by omega
  obtain rfl | rfl | rfl | rfl := hcases <;>
    simp [EventUnit.inputStatus, BitVec.getLsbD_eq_getElem, boolByte_getElem]

theorem hiByte_divisor (d : BitVec 12) : hiByte (d.setWidth 16) = BitVec.ofNat 8 (d.toNat / 256) := by
  rw [hiByte_eq, BitVec.toNat_setWidth, Nat.mod_eq_of_lt (b := 2 ^ 16) (by omega)]

theorem loByte_divisor (d : BitVec 12) : loByte (d.setWidth 16) = BitVec.ofNat 8 d.toNat := by
  apply BitVec.eq_of_toNat_eq
  rw [loByte_eq, BitVec.toNat_setWidth, Nat.mod_eq_of_lt (a := d.toNat) (b := 2 ^ 16) (by omega)]
  simp

theorem settingsImage_eq : s.settingsImage = (List.range 16).map (s.regionByte .settings) := list_eq_map_getD rfl

theorem extConfigImage_eq (i : Fin 4) :
    (s.events.inputs.get i).config.image = (List.range 4).map fun k => s.regionByte .extConfig (4 * i.val + k) :=
  (list_eq_map_getD rfl).trans
    (List.map_congr_left fun _ hk => (regionByte_extConfig s i (List.mem_range.1 hk)).symm)

theorem windowImage_eq (i : Fin 32) :
    (s.windows.get i).image = (List.range 8).map fun k => s.regionByte .windows (8 * i.val + k) :=
  (list_eq_map_getD rfl).trans (List.map_congr_left fun _ hk => (regionByte_windows s i (List.mem_range.1 hk)).symm)

theorem domainConfigImage_eq (d : DomainId) :
    (s.dom d).config.image = (List.range 16).map fun k => s.regionByte .domainConfig (16 * d.val + k) :=
  (list_eq_map_getD rfl).trans
    (List.map_congr_left fun _ hk => (regionByte_domainConfig s d (List.mem_range.1 hk)).symm)

theorem hits_getD (i : Fin 32) : s.hits.toList.getD i.val 0 = s.hits.get i := by
  simp [List.getD_eq_getElem?_getD, get_eq_getElem]

theorem counters_eq :
    ((List.range 16).map fun k => s.regionByte .counters (2 * k) ++ s.regionByte .counters (2 * k + 1)) =
      s.portCounters :=
  (List.map_congr_left fun k _ => halfTableByte_pair s.portCounters k).trans rfl

end RegionBytes

/-- Settles O32, region by region. -/
theorem managementMapAndRegionBytes : Obligations.ManagementMapAndRegionBytes := by
  refine ⟨by decide, fun location length r h => regionOf_eq_some_iff h, fun s => ⟨toNat_mgmtAddress s, rfl, rfl,
    settingsImage_eq s, extConfigImage_eq s, windowImage_eq s, domainConfigImage_eq s, rfl,
    fun c => ⟨charactersName_event _ c, charactersName_event _ c⟩, rfl, rfl, ?settings,
    fun i => (extConfigImage_eq s i).symm, fun i => ?window,
    fun d => ?config, fun k => ⟨rfl, rfl, rfl, rfl⟩, inputStatus_bits s.events, counters_eq s, fun i => ?hits,
    fun d => ?status⟩⟩
  case settings =>
    rw [← settingsImage_eq, State.settingsImage, Format.image, Format.image, hiByte_divisor, loByte_divisor,
      hiByte_divisor, loByte_divisor] <;> rfl
  case hits => exact (halfTableByte_pair s.hits.toList i.val).trans (hits_getD s i)
  case window =>
    intro b w
    have hb : ∀ k < 8, b k = w.image.getD k 0 := fun k hk => regionByte_windows s i hk
    obtain ⟨hvalid, hread, hwrite, hprobe, hshadow, hevent⟩ := w.flags_bits
    rw [hb 0 (by decide), hb 1 (by decide), hb 2 (by decide), hb 3 (by decide), hb 4 (by decide), hb 5 (by decide),
      hb 6 (by decide), hb 7 (by decide)]
    refine ⟨?_, w.firstByte_top, ?_, rfl, rfl, rfl, joinBytes_hi_lo w.locationBase, rfl⟩
    · simp [Window.image, BitVec.getLsbD_eq_getElem, hvalid, hread, hwrite, hprobe, hshadow, hevent]
    · show domainByte w.domain = _
      cases w.domain <;> rfl
  case config =>
    intro b x
    have hb : ∀ k < 16, b k = x.image.getD k 0 := fun k hk => regionByte_domainConfig s d hk
    rw [hb 11 (by decide), hb 12 (by decide), hb 13 (by decide), hb 14 (by decide), hb 15 (by decide)]
    refine ⟨?_, joinBytes_hi_lo x.idleReload, rfl, rfl, rfl⟩
    refine (List.map_congr_left fun k hk => hb k (by rw [List.mem_range] at hk; omega)).trans ?_
    cases ht : x.checkTarget <;> simp only [DomainConfig.image, ht] <;> rfl
  case status =>
    intro b x
    have hb : ∀ k < 16, b k = (s.statusImage d).getD k 0 := fun k hk => regionByte_domainStatus s d hk
    rw [hb 0 (by decide), hb 1 (by decide), hb 2 (by decide), hb 3 (by decide), hb 4 (by decide), hb 5 (by decide),
      hb 6 (by decide), hb 7 (by decide), hb 8 (by decide), hb 9 (by decide), hb 10 (by decide), hb 11 (by decide),
      hb 12 (by decide), hb 13 (by decide), hb 14 (by decide), hb 15 (by decide)]
    refine ⟨rfl, rfl, rfl, rfl, rfl, rfl, rfl, ?_, joinBytes_hi_lo x.wakeCount, joinBytes_hi_lo x.failedCount, rfl, rfl,
      rfl⟩
    exact (joinBytes_hi_lo _).trans rfl

end Sys2Proof.Machine
end

section
/-! PROOFS. The management engine: the entry it serves, the row that serves a request, and READ and PROBE (R53, R118,
R161 to R164, R172 to R175). -/
namespace Sys2Proof.Machine

/-! ## The entry to be served (R53) -/

theorem oldestLocal_eq_some_iff (s : State) (e : Entry) :
    s.oldestLocal = some e ↔
      ∃ before after, s.entries = before ++ e :: after ∧ e.state = .waitingLocal
        ∧ ∀ x ∈ before, x.state ≠ .waitingLocal := by
  have hlocal : ∀ x : Entry, x.state.isLocal = true ↔ x.state = .waitingLocal := fun x =>
    (EntryState.tests_iff x.state).1
  rw [State.oldestLocal, List.find?_eq_some_iff_append]
  simp only [hlocal, Bool.not_eq_true', ← Bool.not_eq_true]
  exact ⟨fun ⟨he, before, after, hl, hb⟩ => ⟨before, after, hl, he, hb⟩,
    fun ⟨before, after, hl, he, hb⟩ => ⟨he, before, after, hl, hb⟩⟩

/-- A row whose request is not the one to be served does nothing (log entry 3). -/
theorem serve_notServing {s : State} {k : ServeKind} (body : Byte → Command → State → Served)
    (h : ∀ e, ¬Serving s k e) : s.serve k body = s := by
  unfold State.serve
  split
  next e he => exact if_neg fun hk => h e ⟨he, hk⟩
  next => rfl

/-! ## The row that serves a request (R53, R164) -/

section Rows
variable {c : Command}

/-- The whole range of a request lies in a region (R163). -/
theorem Command.region_eq_some_iff (h : 1 ≤ c.length.toNat) (r : Region) :
    c.region = some r ↔
      r.base ≤ c.location.toNat ∧ c.location.toNat + c.length.toNat - 1 ≤ r.base + r.size - 1 := by
  have hsize : 1 ≤ r.size := by cases r <;> decide
  rw [Command.region, regionOf_eq_some_iff h]
  omega

theorem Command.writesIn_iff (h : 1 ≤ c.length.toNat) (r : Region) :
    c.writesIn r = true ↔ c.op = 0x02
      ∧ r.base ≤ c.location.toNat ∧ c.location.toNat + c.length.toNat - 1 ≤ r.base + r.size - 1 := by
  rw [Command.writesIn, Bool.and_eq_true, beq_iff_eq, beq_iff_eq, Command.region_eq_some_iff h]
  rfl

theorem Command.touchesAt_iff (h : 1 ≤ c.length.toNat) (base : Nat) {size : Nat} (hsize : 1 ≤ size) :
    c.touchesAt base size = true ↔
      c.location.toNat ≤ base + size - 1 ∧ base ≤ c.location.toNat + c.length.toNat - 1 := by
  rw [Command.touchesAt, touches, Bool.and_eq_true, decide_eq_true_eq, decide_eq_true_eq]
  omega

theorem byte_eq_iff_toNat (b : Byte) (n : Nat) (hn : n < 256) : b = BitVec.ofNat 8 n ↔ b.toNat = n := by
  rw [← BitVec.toNat_inj, BitVec.toNat_ofNat, Nat.mod_eq_of_lt hn]

/-- A write of a code into a command region of one location names that location and one byte (R173). -/
theorem within_one_iff (h : 1 ≤ c.length.toNat) (a : Nat) :
    (a ≤ c.location.toNat ∧ c.location.toNat + c.length.toNat - 1 ≤ a) ↔ c.location.toNat = a ∧ c.length = 1 := by
  rw [show c.length = 1 ↔ c.length.toNat = 1 from byte_eq_iff_toNat c.length 1 (by decide)]
  omega

theorem Command.gives_iff (r : Region) (code : Byte) :
    c.gives r code = true ↔ c.writesIn r = true ∧ c.length = 1 ∧ c.payload.head? = some code := by
  rw [Command.gives, Bool.and_eq_true, Bool.and_eq_true, beq_iff_eq, beq_iff_eq, and_assoc]

theorem Command.edits_iff (h : 1 ≤ c.length.toNat) (action : Byte) :
    c.edits action = true ↔
      c.op = 0x02 ∧ c.location.toNat = 0x0430 ∧ c.length = 16 ∧ c.payload.head? = some action := by
  have hlen : c.length = 16 ↔ c.length.toNat = 16 := byte_eq_iff_toNat c.length 16 (by decide)
  rw [Command.edits, Bool.and_eq_true, Bool.and_eq_true, beq_iff_eq, beq_iff_eq, Command.writesIn_iff h, hlen]
  simp only [Region.base, Region.size]
  constructor
  · rintro ⟨⟨⟨hop, hfirst, hlast⟩, hlength⟩, hcode⟩
    exact ⟨hop, by omega, hlength, hcode⟩
  · rintro ⟨hop, hfirst, hlength, hcode⟩
    exact ⟨⟨⟨hop, by omega, by omega⟩, hlength⟩, hcode⟩

theorem serves_mgmtRead_iff (h : 1 ≤ c.length.toNat) :
    serves .mgmtRead c = true ↔ c.op = 0x01
      ∧ ¬(0x0420 ≤ c.location.toNat ∧ c.location.toNat + c.length.toNat - 1 ≤ 0x042F) := by
  rw [serves, Bool.and_eq_true, beq_iff_eq, bne_iff_ne, Ne, Command.region_eq_some_iff h]
  rfl

theorem serves_shadowRead_iff (h : 1 ≤ c.length.toNat) :
    serves .shadowRead c = true ↔ c.op = 0x01
      ∧ (0x0420 ≤ c.location.toNat ∧ c.location.toNat + c.length.toNat - 1 ≤ 0x042F) := by
  rw [serves, Bool.and_eq_true, beq_iff_eq, beq_iff_eq, Command.region_eq_some_iff h]
  rfl

/-- A row for the WRITEs in a region that touch some of its locations. -/
theorem writesIn_touching_iff (h : 1 ≤ c.length.toNat) (r : Region) (base : Nat) {size : Nat} (hsize : 1 ≤ size) :
    (c.writesIn r && c.touchesAt base size) = true ↔
      c.op = 0x02 ∧ (r.base ≤ c.location.toNat ∧ c.location.toNat + c.length.toNat - 1 ≤ r.base + r.size - 1)
        ∧ (c.location.toNat ≤ base + size - 1 ∧ base ≤ c.location.toNat + c.length.toNat - 1) := by
  rw [Bool.and_eq_true, Command.writesIn_iff h, Command.touchesAt_iff h base hsize, and_assoc]

theorem domainCommand_iff (h : 1 ≤ c.length.toNat) (code : Byte) :
    c.gives .domainCommand code = true ↔
      c.op = 0x02 ∧ (0x0400 ≤ c.location.toNat ∧ c.location.toNat + c.length.toNat - 1 ≤ 0x0407) ∧ c.length = 1
        ∧ c.payload.head? = some code := by
  rw [Command.gives_iff, Command.writesIn_iff h, and_assoc]
  rfl

theorem globalCommand_iff (h : 1 ≤ c.length.toNat) (code : Byte) :
    c.gives .globalCommand code = true ↔
      c.op = 0x02 ∧ c.location.toNat = 0x0408 ∧ c.length = 1 ∧ c.payload.head? = some code := by
  rw [Command.gives_iff, Command.writesIn_iff h]
  have hone := within_one_iff h 0x0408
  constructor
  · rintro ⟨⟨hop, hrange⟩, -, hcode⟩
    obtain ⟨hfirst, hlength⟩ := hone.1 hrange
    exact ⟨hop, hfirst, hlength, hcode⟩
  · rintro ⟨hop, hfirst, hlength, hcode⟩
    exact ⟨⟨hop, hone.2 ⟨hfirst, hlength⟩⟩, hlength, hcode⟩

theorem shadowSelect_iff (h : 1 ≤ c.length.toNat) :
    c.writesIn .shadowSelect = true ↔ c.op = 0x02 ∧ c.location.toNat = 0x0410 ∧ c.length = 1 := by
  rw [Command.writesIn_iff h, ← within_one_iff h 0x0410]
  rfl

/-- A WRITE of no other row is MGMT_WRITE's. -/
theorem serves_mgmtWrite_iff :
    serves .mgmtWrite c = true ↔ c.op = 0x02 ∧ ∀ k ∈ ownRows, serves k c = false := by
  have hown : ∀ k ∈ ownRows, serves k c = ownRow k c := by
    simp only [ownRows, List.forall_mem_cons, List.not_mem_nil, false_imp_iff, implies_true, and_true]
    exact ⟨rfl, rfl, rfl, rfl, rfl, rfl, rfl, rfl, rfl, rfl, rfl, rfl, rfl, rfl, rfl⟩
  rw [serves, Bool.and_eq_true, beq_iff_eq, Bool.not_eq_true', ← Bool.not_eq_true, List.any_eq_true, not_exists]
  refine and_congr Iff.rfl (forall_congr' fun k => ?_)
  constructor
  · exact fun h hk => by rw [hown k hk, ← Bool.not_eq_true]; exact fun hr => h ⟨hk, hr⟩
  · exact fun h ⟨hk, hr⟩ => by rw [← hown k hk, h hk] at hr; cases hr

end Rows

/-! ## READ and PROBE (R161 to R163) -/

section ReadProbe
variable {s : State} {e : Entry}

/-- An entry answered, and nothing else changed. -/
theorem answered_alone (s : State) (tag : Byte) (reply : List Byte) :
    Answered s (announce s (s.finishEntry tag .ok reply)) tag .ok reply
      ∧ Frame [.entries, .replyQueue] s (announce s (s.finishEntry tag .ok reply)) := by
  refine ⟨answered_ok s s tag reply rfl rfl, ?_⟩
  rw [announce_same _ _ (by simp)]
  intro b hb
  cases b <;> simp_all [State.agrees]

theorem exec_mgmtRead (h : Serving s .mgmtRead e) :
    exec .mgmtRead s = .next (announce s (s.conclude e.tag (serveRead e.tag e.cmd s))) := by
  show finishEvent s (s.serve .mgmtRead serveRead) = _
  rw [serve_eq s .mgmtRead e serveRead h, finishEvent_eq]

theorem exec_mgmtRead_region {r : Region} (h : Serving s .mgmtRead e) (hr : e.cmd.region = some r) :
    exec .mgmtRead s = .next (announce s
      (s.finishEntry e.tag .ok (s.regionBytes r e.cmd.location.toNat e.cmd.length.toNat))) := by
  rw [exec_mgmtRead h]
  simp only [serveRead, hr]
  rfl

theorem exec_mgmtRead_outside (h : Serving s .mgmtRead e) (hr : e.cmd.region = none) :
    exec .mgmtRead s = .next (announce s (s.conclude e.tag .invalid)) := by
  rw [exec_mgmtRead h]
  simp only [serveRead, hr]

theorem exec_mgmtProbe (h : Serving s .mgmtProbe e) :
    exec .mgmtProbe s = .next (announce s (s.finishEntry e.tag .ok [])) := by
  show finishEvent s (s.serve .mgmtProbe fun _ _ t => .ok t []) = _
  rw [serve_eq s .mgmtProbe e _ h, finishEvent_eq]
  rfl

end ReadProbe

/-- The rows and the commands of the table that run them (R53). -/
def servingCommands : List (ServeKind × Instr) :=
  [(.mgmtRead, .mgmtRead), (.mgmtProbe, .mgmtProbe), (.mgmtWrite, .mgmtWrite), (.uportFormatWrite, .uportFormatWrite),
    (.sportFormatWrite, .sportFormatWrite), (.enableWrite, .enableWrite), (.clearWrite, .clearWrite),
    (.windowWrite, .windowWrite), (.domainConfigWrite, .domainConfigWrite), (.wake, .wake), (.sleep, .sleep),
    (.clearFault, .clearFault), (.clearShadow, .clearShadow), (.segmentReset, .segmentReset),
    (.clearCounters, .clearCounters), (.shadowSelect, .shadowSelect), (.shadowRead, .shadowRead), (.insert, .insert),
    (.delete, .delete)]

/-- Each of these commands serves by its row and does nothing else. -/
theorem servingCommands_serve :
    ∀ p ∈ servingCommands, ∃ body, ∀ s : State, exec p.2 s = finishEvent s (s.serve p.1 body) := by
  simp only [servingCommands, List.forall_mem_cons, List.not_mem_nil, false_imp_iff, implies_true, and_true]
  exact ⟨⟨_, fun _ => rfl⟩, ⟨_, fun _ => rfl⟩, ⟨_, fun _ => rfl⟩, ⟨_, fun _ => rfl⟩, ⟨_, fun _ => rfl⟩,
    ⟨_, fun _ => rfl⟩, ⟨_, fun _ => rfl⟩, ⟨_, fun _ => rfl⟩, ⟨_, fun _ => rfl⟩, ⟨_, fun _ => rfl⟩,
    ⟨_, fun _ => rfl⟩, ⟨_, fun _ => rfl⟩, ⟨_, fun _ => rfl⟩, ⟨_, fun _ => rfl⟩, ⟨_, fun _ => rfl⟩,
    ⟨_, fun _ => rfl⟩, ⟨_, fun _ => rfl⟩, ⟨_, fun _ => rfl⟩, ⟨_, fun _ => rfl⟩⟩

theorem exec_notServing {p : ServeKind × Instr} (hp : p ∈ servingCommands) {s : State} (h : ∀ e, ¬Serving s p.1 e) :
    exec p.2 s = .next s := by
  obtain ⟨body, hbody⟩ := servingCommands_serve p hp
  rw [hbody, serve_notServing body h]
  exact finishEvent_self s

/-- Settles O31: the entry, the rows, a row that is not the request's, then READ and PROBE. -/
theorem readsAndProbesAreServed : Obligations.ReadsAndProbesAreServed := by
  refine ⟨oldestLocal_eq_some_iff, fun c => beq_iff_eq, fun c h => ⟨serves_mgmtRead_iff h, serves_shadowRead_iff h,
    writesIn_touching_iff h .settings 0x0010 (by decide), writesIn_touching_iff h .settings 0x0014 (by decide),
    writesIn_touching_iff h .events 0x0022 (by decide), writesIn_touching_iff h .events 0x0024 (by decide),
    Command.writesIn_iff h .windows, Command.writesIn_iff h .domainConfig, ?_, ?_, shadowSelect_iff h, ?_,
    serves_mgmtWrite_iff⟩, fun p hp s h => exec_notServing hp h, fun s e => ⟨fun h => ⟨fun r hr => ?_, fun hr => ?_⟩,
    fun h => ⟨_, exec_mgmtProbe h, answered_alone s e.tag []⟩⟩⟩
  · simp only [List.forall_mem_cons, List.not_mem_nil, false_imp_iff, implies_true, and_true]
    exact ⟨domainCommand_iff h 0x01, domainCommand_iff h 0x02, domainCommand_iff h 0x03, domainCommand_iff h 0x04⟩
  · simp only [List.forall_mem_cons, List.not_mem_nil, false_imp_iff, implies_true, and_true]
    exact ⟨globalCommand_iff h 0x01, globalCommand_iff h 0x02⟩
  · simp only [List.forall_mem_cons, List.not_mem_nil, false_imp_iff, implies_true, and_true]
    exact ⟨Command.edits_iff h 0x01, Command.edits_iff h 0x02⟩
  · exact ⟨_, exec_mgmtRead_region h hr, answered_alone s e.tag _⟩
  · exact ⟨_, exec_mgmtRead_outside h hr, notServed_invalid s e.tag⟩

end Sys2Proof.Machine
end

section
/-! PROOFS. Records read from bytes, where the bytes pass their owner's validation and where they do not (R2, R75, R127,
R155, R164 to R170). -/
namespace Sys2Proof.Machine

/-! ## Fields -/

theorem byteBool_eq_some_iff (b : Byte) (x : Bool) : byteBool b = some x ↔ b = boolByte x := by
  constructor
  · intro h
    unfold byteBool at h
    split_ifs at h with hzero hone <;> cases h <;> assumption
  · rintro rfl
    exact byteBool_boolByte x

theorem byteBool_accepts_iff (b : Byte) : (∃ x, byteBool b = some x) ↔ b.toNat ≤ 1 := by
  simp only [byteBool_eq_some_iff]
  constructor
  · rintro ⟨x, rfl⟩
    cases x <;> decide
  · intro h
    obtain h | h : b.toNat = 0 ∨ b.toNat = 1 := by omega
    · exact ⟨false, BitVec.eq_of_toNat_eq h⟩
    · exact ⟨true, BitVec.eq_of_toNat_eq h⟩

/-- The byte of a power-good input field: 0 for NONE, else one more than the input's number (R170). -/
def pgInputByte : Option (Fin 4) → Byte
  | none => 0
  | some i => BitVec.ofNat 8 (i.val + 1)

theorem bytePgInput_eq_some_iff (b : Byte) (x : Option (Fin 4)) : bytePgInput b = some x ↔ b = pgInputByte x := by
  constructor
  · intro h
    unfold bytePgInput at h
    split_ifs at h with hzero hlow
    · cases h
      exact hzero
    · cases h
      have hpos : b.toNat ≠ 0 := fun h0 => hzero (BitVec.eq_of_toNat_eq h0)
      have hlt := b.isLt
      apply BitVec.eq_of_toNat_eq
      simp only [pgInputByte, BitVec.toNat_ofNat]
      omega
  · rintro rfl
    cases x with
    | none => rfl
    | some i => exact bytePgInput_code i

theorem bytePgInput_accepts_iff (b : Byte) : (∃ x, bytePgInput b = some x) ↔ b.toNat ≤ 4 := by
  unfold bytePgInput
  split_ifs with hzero hlow
  · simp [hzero]
  · simp only [Option.some.injEq, exists_eq', true_iff]
    omega
  · have hpos : b.toNat ≠ 0 := fun h0 => hzero (BitVec.eq_of_toNat_eq h0)
    simp only [exists_const, false_iff]
    omega

/-- The byte of an edge selection (R155). -/
def edgeByte : EdgeSelect → Byte
  | .off => 0
  | .rising => 1
  | .falling => 2
  | .both => 3

theorem EdgeSelect.ofCode_eq_some_iff (b : Byte) (x : EdgeSelect) : EdgeSelect.ofCode b = some x ↔ b = edgeByte x := by
  constructor
  · intro h
    unfold EdgeSelect.ofCode at h
    split_ifs at h <;> cases h <;> assumption
  · rintro rfl
    cases x <;> rfl

theorem EdgeSelect.ofCode_accepts_iff (b : Byte) : (∃ x, EdgeSelect.ofCode b = some x) ↔ b.toNat ≤ 3 := by
  simp only [EdgeSelect.ofCode_eq_some_iff]
  constructor
  · rintro ⟨x, rfl⟩
    cases x <;> decide
  · intro h
    obtain h | h | h | h : b.toNat = 0 ∨ b.toNat = 1 ∨ b.toNat = 2 ∨ b.toNat = 3 := by omega
    · exact ⟨.off, BitVec.eq_of_toNat_eq h⟩
    · exact ⟨.rising, BitVec.eq_of_toNat_eq h⟩
    · exact ⟨.falling, BitVec.eq_of_toNat_eq h⟩
    · exact ⟨.both, BitVec.eq_of_toNat_eq h⟩

/-! ## External-input records (R155, R167) -/

theorem ExtConfig.image_eq (c : ExtConfig) : c.image = [edgeByte c.edge, boolByte c.raise, c.activity, c.wake] := by
  cases h : c.edge <;> simp only [ExtConfig.image, h] <;> rfl

theorem ExtConfig.ofImage_of_ok {b : List Byte} (hedge : (b.getD 0 0).toNat ≤ 3) (hraise : (b.getD 1 0).toNat ≤ 1) :
    ∃ c, ExtConfig.ofImage b = some c ∧ c.image = [b.getD 0 0, b.getD 1 0, b.getD 2 0, b.getD 3 0] := by
  obtain ⟨edge, he⟩ := (EdgeSelect.ofCode_accepts_iff _).2 hedge
  obtain ⟨raise, hr⟩ := (byteBool_accepts_iff _).2 hraise
  refine ⟨{ edge := edge, raise := raise, activity := b.getD 2 0, wake := b.getD 3 0 },
    by simp only [ExtConfig.ofImage, he, hr], ?_⟩
  rw [ExtConfig.image_eq, ← (EdgeSelect.ofCode_eq_some_iff _ _).1 he, ← (byteBool_eq_some_iff _ _).1 hr]

theorem ExtConfig.ok_of_ofImage {b : List Byte} {c : ExtConfig} (h : ExtConfig.ofImage b = some c) :
    (b.getD 0 0).toNat ≤ 3 ∧ (b.getD 1 0).toNat ≤ 1 := by
  unfold ExtConfig.ofImage at h
  split at h
  next edge raise he hr =>
    exact ⟨(EdgeSelect.ofCode_accepts_iff _).1 ⟨edge, he⟩, (byteBool_accepts_iff _).1 ⟨raise, hr⟩⟩
  next => cases h

/-! ## Domain configuration records (R75, R170) -/

/-- The bytes of a domain configuration record pass R75. -/
def DomainBytesOk (mgmt : Byte) (b : List Byte) : Prop :=
  (b.getD 0 0).toNat ≤ 1 ∧ (b.getD 1 0).toNat ≤ 1 ∧ (b.getD 2 0).toNat ≤ 1 ∧ (b.getD 3 0).toNat ≤ 1
    ∧ (b.getD 4 0).toNat ≤ 4 ∧ (b.getD 5 0).toNat ≤ 0x7F ∧ b.getD 5 0 ≠ mgmt ∧ b.getD 6 0 ≠ 0
    ∧ 1 ≤ (b.getD 9 0).toNat ∧ (b.getD 9 0).toNat ≤ 4 ∧ 1 ≤ (b.getD 10 0).toNat ∧ (b.getD 10 0).toNat ≤ 16

theorem DomainConfig.image_eq (c : DomainConfig) :
    c.image =
      [boolByte (c.mode == .heldMode), boolByte c.wakeAllowed, boolByte (c.polarity == .activeLow),
        boolByte (c.policy == .lenient), pgInputByte c.pgInput, c.checkTarget.getD 0, c.settleTime, c.minimumOff,
        c.warning, c.wakeLimit, c.recoveryGap, hiByte c.idleReload, loByte c.idleReload, 0, 0, 0] := by
  have hmode := (byteBool_eq_some_iff _ _).1 c.mode_image
  have hpolarity := (byteBool_eq_some_iff _ _).1 c.polarity_image
  have hpolicy := (byteBool_eq_some_iff _ _).1 c.policy_image
  have hpg := (bytePgInput_eq_some_iff _ _).1 c.pgInput_image
  rw [← hmode, ← hpolarity, ← hpolicy, ← hpg]
  rfl

theorem DomainConfig.ofImage_of_ok {mgmt : Byte} {b : List Byte} (h : DomainBytesOk mgmt b) :
    ∃ c, DomainConfig.ofImage mgmt b = some c
      ∧ c.image = (List.range 13).map (fun k => b.getD k 0) ++ [0, 0, 0] := by
  obtain ⟨h0, h1, h2, h3, h4, hfields⟩ := h
  obtain ⟨mode, hmode⟩ := (byteBool_accepts_iff _).2 h0
  obtain ⟨wake, hwake⟩ := (byteBool_accepts_iff _).2 h1
  obtain ⟨polarity, hpolarity⟩ := (byteBool_accepts_iff _).2 h2
  obtain ⟨policy, hpolicy⟩ := (byteBool_accepts_iff _).2 h3
  obtain ⟨pg, hpg⟩ := (bytePgInput_accepts_iff _).2 h4
  refine ⟨_, by simp only [DomainConfig.ofImage, hmode, hwake, hpolarity, hpolicy, hpg]; exact if_pos hfields, ?_⟩
  have hheld : ((if mode = true then Mode.heldMode else .managed) == .heldMode) = mode := by cases mode <;> rfl
  have hlow : ((if polarity = true then Polarity.activeLow else .activeHigh) == .activeLow) = polarity := by
    cases polarity <;> rfl
  have hlenient : ((if policy = true then RestorePolicy.lenient else .strict) == .lenient) = policy := by
    cases policy <;> rfl
  have htarget : (if b.getD 5 0 = 0 then none else some (b.getD 5 0)).getD 0 = b.getD 5 0 := by
    split_ifs with hzero
    · exact hzero.symm
    · rfl
  rw [DomainConfig.image_eq]
  simp only [hheld, hlow, hlenient, htarget, hiByte_join, loByte_join, ← (byteBool_eq_some_iff _ _).1 hmode,
    ← (byteBool_eq_some_iff _ _).1 hwake, ← (byteBool_eq_some_iff _ _).1 hpolarity,
    ← (byteBool_eq_some_iff _ _).1 hpolicy, ← (bytePgInput_eq_some_iff _ _).1 hpg]
  rfl

theorem DomainConfig.bytesOk_of_ofImage {mgmt : Byte} {b : List Byte} {c : DomainConfig}
    (h : DomainConfig.ofImage mgmt b = some c) : DomainBytesOk mgmt b := by
  simp only [DomainConfig.ofImage] at h
  split at h
  next mode wake polarity policy pg hmode hwake hpolarity hpolicy hpg =>
    split at h
    next hfields =>
      exact ⟨(byteBool_accepts_iff _).1 ⟨_, hmode⟩, (byteBool_accepts_iff _).1 ⟨_, hwake⟩,
        (byteBool_accepts_iff _).1 ⟨_, hpolarity⟩, (byteBool_accepts_iff _).1 ⟨_, hpolicy⟩,
        (bytePgInput_accepts_iff _).1 ⟨_, hpg⟩, hfields⟩
    next => cases h
  next => cases h

/-! ## Formats and one-byte settings (R2, R48, R127, R166) -/

/-- The bytes of a format are each in its range (R2). -/
def FormatBytesOk (parity stop hi lo : Byte) : Prop :=
  parity.toNat ≤ 2 ∧ (stop = 1 ∨ stop = 2) ∧ 1 ≤ 256 * hi.toNat + lo.toNat ∧ 256 * hi.toNat + lo.toNat ≤ 4095

/-- The byte of a parity (R2). -/
def parityByte : Parity → Byte
  | .none => 0
  | .even => 1
  | .odd => 2

/-- The byte of the stop bits (R2). -/
def stopByte : StopBits → Byte
  | .one => 1
  | .two => 2

theorem Format.image_eq (f : Format) :
    f.image =
      [parityByte f.parity, stopByte f.stop, hiByte (f.divisor.setWidth 16), loByte (f.divisor.setWidth 16)] := by
  cases hp : f.parity <;> cases hs : f.stop <;> simp only [Format.image, hp, hs] <;> rfl

/-- The parity of a byte (R2). -/
def parityOf (b : Byte) : Option Parity :=
  if b = 0 then some .none else if b = 1 then some .even else if b = 2 then some .odd else none

/-- The stop bits of a byte (R2). -/
def stopOf (b : Byte) : Option StopBits :=
  if b = 1 then some .one else if b = 2 then some .two else none

theorem parityOf_eq_some_iff (b : Byte) (p : Parity) : parityOf b = some p ↔ b = parityByte p := by
  unfold parityOf
  cases p <;> split_ifs <;> simp_all [parityByte]

theorem stopOf_eq_some_iff (b : Byte) (t : StopBits) : stopOf b = some t ↔ b = stopByte t := by
  unfold stopOf
  cases t <;> split_ifs <;> simp_all [stopByte]

/-- Bytes that read as a format, by what they read as (R2). -/
theorem Format.ofImage_eq_some_iff (b : List Byte) (f : Format) :
    Format.ofImage b = some f ↔
      b.getD 0 0 = parityByte f.parity ∧ b.getD 1 0 = stopByte f.stop
        ∧ 1 ≤ (joinBytes (b.getD 2 0) (b.getD 3 0)).toNat ∧ (joinBytes (b.getD 2 0) (b.getD 3 0)).toNat ≤ 4095
        ∧ f.divisor = (joinBytes (b.getD 2 0) (b.getD 3 0)).setWidth 12 := by
  rw [← parityOf_eq_some_iff, ← stopOf_eq_some_iff]
  obtain ⟨parity, stop, divisor⟩ := f
  unfold Format.ofImage
  dsimp only
  generalize joinBytes (b.getD 2 0) (b.getD 3 0) = value
  split
  next p t hp ht =>
    have hparity : parityOf (b.getD 0 0) = some p := hp
    have hstop : stopOf (b.getD 1 0) = some t := ht
    rw [hparity, hstop]
    split_ifs with hrange
    · simp only [Option.some.injEq, Format.mk.injEq, hrange.1, hrange.2, true_and, eq_comm]
    · exact ⟨fun h => (nomatch h), fun ⟨_, _, hlow, hhigh, _⟩ => (hrange ⟨hlow, hhigh⟩).elim⟩
  next hnone =>
    exact ⟨fun h => (nomatch h), fun ⟨hp, ht, _⟩ => (hnone parity stop hp ht).elim⟩

theorem parityByte_accepts_iff (b : Byte) : (∃ p, b = parityByte p) ↔ b.toNat ≤ 2 := by
  constructor
  · rintro ⟨p, rfl⟩
    cases p <;> decide
  · intro h
    obtain h | h | h : b.toNat = 0 ∨ b.toNat = 1 ∨ b.toNat = 2 := by omega
    · exact ⟨.none, BitVec.eq_of_toNat_eq h⟩
    · exact ⟨.even, BitVec.eq_of_toNat_eq h⟩
    · exact ⟨.odd, BitVec.eq_of_toNat_eq h⟩

theorem stopByte_accepts_iff (b : Byte) : (∃ p, b = stopByte p) ↔ b = 1 ∨ b = 2 := by
  constructor
  · rintro ⟨p, rfl⟩
    cases p <;> decide
  · rintro (rfl | rfl)
    · exact ⟨.one, rfl⟩
    · exact ⟨.two, rfl⟩

theorem Format.ofImage_of_ok {b : List Byte} (h : FormatBytesOk (b.getD 0 0) (b.getD 1 0) (b.getD 2 0) (b.getD 3 0)) :
    ∃ f, Format.ofImage b = some f ∧ f.image = [b.getD 0 0, b.getD 1 0, b.getD 2 0, b.getD 3 0] := by
  obtain ⟨hparity, hstop, hlow, hhigh⟩ := h
  obtain ⟨parity, hp⟩ := (parityByte_accepts_iff _).2 hparity
  obtain ⟨stop, hs⟩ := (stopByte_accepts_iff _).2 hstop
  rw [← joinBytes_toNat] at hlow hhigh
  refine ⟨⟨parity, stop, (joinBytes (b.getD 2 0) (b.getD 3 0)).setWidth 12⟩,
    (Format.ofImage_eq_some_iff _ _).2 ⟨hp, hs, hlow, hhigh, rfl⟩, ?_⟩
  have hback :
      ((joinBytes (b.getD 2 0) (b.getD 3 0)).setWidth 12).setWidth 16 = joinBytes (b.getD 2 0) (b.getD 3 0) := by
    apply BitVec.eq_of_toNat_eq
    rw [BitVec.toNat_setWidth, BitVec.toNat_setWidth]
    omega
  rw [Format.image_eq, hback, hiByte_join, loByte_join, ← hp, ← hs]

theorem Format.bytesOk_of_ofImage {b : List Byte} {f : Format} (h : Format.ofImage b = some f) :
    FormatBytesOk (b.getD 0 0) (b.getD 1 0) (b.getD 2 0) (b.getD 3 0) := by
  obtain ⟨hp, hs, hlow, hhigh, -⟩ := (Format.ofImage_eq_some_iff b f).1 h
  rw [joinBytes_toNat] at hlow hhigh
  exact ⟨(parityByte_accepts_iff _).1 ⟨_, hp⟩, (stopByte_accepts_iff _).1 ⟨_, hs⟩, hlow, hhigh⟩

theorem settingByte_eq_some_iff {low high : Nat} {b : List Byte} {x : Byte} :
    settingByte low high b = some x ↔ x = b.getD 0 0 ∧ low ≤ (b.getD 0 0).toNat ∧ (b.getD 0 0).toNat ≤ high := by
  unfold settingByte
  split_ifs with h
  · exact ⟨fun hx => ⟨(Option.some.inj hx).symm, h⟩, fun hx => congrArg some hx.1.symm⟩
  · exact ⟨fun hx => (nomatch hx), fun hx => (h hx.2).elim⟩

end Sys2Proof.Machine
end

section
/-! PROOFS. WRITEs of configuration records: the domain configuration region (R75, R82), the external-input region and
the WRITEs no row names (R155, R164). -/
namespace Sys2Proof.Machine

/-! ## Domain configuration (R75, R82) -/

/-- The management address is none of the check-target codes, 0 among them (R161). -/
theorem mgmtAddress_ne_zero (s : State) : s.mgmtAddress ≠ 0 := fun h => by
  have hvalue := toNat_mgmtAddress s
  rw [h] at hvalue
  change 0 = _ at hvalue
  omega

/-- The bytes of a domain configuration record as they would stand after a WRITE (R75). -/
def State.domainConfigBytes (s : State) (c : Command) (d : DomainId) : List Byte :=
  overlay (0x0300 + 16 * d.val) (s.dom d).config.image c.location.toNat c.payload

section DomainConfigs
variable {s : State} {c : Command} (hconfig : ∀ d, ConfigOk s.mgmtAddress (s.dom d).config)
include hconfig

/-- Touched or not, a record is judged on its bytes as they would stand. -/
theorem rewrittenDomainConfig_eq (d : DomainId) :
    rewritten (0x0300 + 16 * d.val) (s.dom d).config.image (DomainConfig.ofImage s.mgmtAddress) (s.dom d).config
      c.location.toNat c.payload = DomainConfig.ofImage s.mgmtAddress (s.domainConfigBytes c d) :=
  rewritten_eq _ _ _ _ _ _ (DomainConfig.ofImage_image (hconfig d) (mgmtAddress_ne_zero s))

/-- Where every record passes, all of them take their bytes (R75). -/
theorem writeDomainConfigs_ok (tag : Byte) (h : ∀ d, DomainBytesOk s.mgmtAddress (s.domainConfigBytes c d)) :
    ∃ cs : Vector DomainConfig 8,
      writeDomainConfigs tag c s = .ok (s.withDomains (tabulate 8 fun d => (s.dom d).configure (cs.get d))) []
        ∧ ∀ d, (cs.get d).image = (List.range 13).map (fun k => (s.domainConfigBytes c d).getD k 0) ++ [0, 0, 0] := by
  choose w hread himage using fun d => DomainConfig.ofImage_of_ok (h d)
  refine ⟨tabulate 8 w, ?_, fun d => by rw [get_tabulate]; exact himage d⟩
  have hjudged :=
    (judgeAll_some (fun d => DomainConfig.ofImage s.mgmtAddress (s.domainConfigBytes c d)) (tabulate 8 w)).2 fun d => by
      rw [get_tabulate]; exact hread d
  unfold writeDomainConfigs
  simp only [rewrittenDomainConfig_eq hconfig, hjudged]

/-- Where one record fails, the whole WRITE does (R75). -/
theorem writeDomainConfigs_invalid (tag : Byte) (h : ¬∀ d, DomainBytesOk s.mgmtAddress (s.domainConfigBytes c d)) :
    writeDomainConfigs tag c s = .invalid := by
  obtain ⟨d, hd⟩ := not_forall.1 h
  have hnone : DomainConfig.ofImage s.mgmtAddress (s.domainConfigBytes c d) = none :=
    Option.eq_none_iff_forall_ne_some.2 fun _ hread => hd (DomainConfig.bytesOk_of_ofImage hread)
  have hjudged := (judgeAll_none fun d => DomainConfig.ofImage s.mgmtAddress (s.domainConfigBytes c d)).2 ⟨d, hnone⟩
  unfold writeDomainConfigs
  simp only [rewrittenDomainConfig_eq hconfig, hjudged]

end DomainConfigs

/-- A domain in WARNING whose mode goes from MANAGED to HELD returns to ON, its idle timer stopped (R76, R82). -/
theorem Domain.configure_state_toHeld {x : Domain} {c : DomainConfig} (hold : x.config.mode = .managed)
    (hnew : c.mode = .heldMode) (hwarning : x.state.isWarning = true) : (x.configure c).state = .on none := by
  have hload : c.idleLoad = none := by simp [DomainConfig.idleLoad, hnew]
  rw [Domain.configure, if_pos ⟨hold, hnew, hwarning⟩, hload]

theorem Domain.configure_state_else {x : Domain} {c : DomainConfig}
    (h : ¬(x.config.mode = .managed ∧ c.mode = .heldMode ∧ x.state.isWarning = true)) :
    (x.configure c).state = x.state := if_neg h

/-- New domains and an entry answered: every other block stays, and no class is set. -/
theorem frame_domainsAnswered (s : State) (ds : Vector Domain 8) (tag : Byte) :
    Frame [.entries, .replyQueue, .domains] s (announce s ((s.withDomains ds).finishEntry tag .ok [])) := by
  rw [announce_same _ _ (by simp)]
  intro b hb
  cases b <;> simp_all [State.agrees]

/-- Settles O37: the records judged together, then every domain reconfigured, or the entry answered INVALID. -/
theorem domainConfigWritesAreJudgedWhole : Obligations.DomainConfigWritesAreJudgedWhole := by
  intro s e hserving hconfig
  have hexec : exec .domainConfigWrite s =
      .next (announce s (s.conclude e.tag (writeDomainConfigs e.tag e.cmd s))) :=
    finishEvent_serve writeDomainConfigs hserving
  refine ⟨fun hok => ?_, fun hbad => ⟨_, hexec, ?_⟩⟩
  · obtain ⟨cs, hwrite, himage⟩ := writeDomainConfigs_ok hconfig e.tag (c := e.cmd) hok
    rw [hwrite] at hexec
    refine ⟨_, hexec, answered_ok s _ e.tag [] rfl rfl, frame_domainsAnswered s _ e.tag, fun d => ?_⟩
    have hdom : (announce s (s.conclude e.tag
        (.ok (s.withDomains (tabulate 8 fun d => (s.dom d).configure (cs.get d))) []))).dom d =
        (s.dom d).configure (cs.get d) := by
      simp [State.conclude, State.dom, get_tabulate]
    rw [hdom]
    exact ⟨himage d, rfl, fun ⟨hold, hnew, hwarning⟩ => Domain.configure_state_toHeld hold hnew hwarning,
      Domain.configure_state_else⟩
  · rw [writeDomainConfigs_invalid hconfig e.tag hbad]
    exact notServed_invalid s e.tag

/-! ## External inputs, and the WRITEs no row names (R155, R164) -/

/-- The bytes of an external-input record as they would stand after a WRITE (R155). -/
def State.extConfigBytes (s : State) (c : Command) (i : Fin 4) : List Byte :=
  overlay (0x0028 + 4 * i.val) (s.events.inputs.get i).config.image c.location.toNat c.payload

/-- The bytes of an external-input record pass R155. -/
def ExtBytesOk (b : List Byte) : Prop := (b.getD 0 0).toNat ≤ 3 ∧ (b.getD 1 0).toNat ≤ 1

section ExtConfigs
variable {s : State} {c : Command}

/-- Touched or not, a record is judged on its bytes as they would stand. -/
theorem rewrittenExtConfig_eq (i : Fin 4) :
    rewritten (0x0028 + 4 * i.val) (s.events.inputs.get i).config.image ExtConfig.ofImage
      (s.events.inputs.get i).config c.location.toNat c.payload = ExtConfig.ofImage (s.extConfigBytes c i) :=
  rewritten_eq _ _ _ _ _ _ (ExtConfig.ofImage_image _)

/-- Where every record passes, all of them take their bytes (R155). -/
theorem writeExtConfig_ok (h : ∀ i, ExtBytesOk (s.extConfigBytes c i)) :
    ∃ cs : Vector ExtConfig 4,
      writeExtConfig c s = .ok (s.withEvents (s.events.configure cs)) []
        ∧ ∀ i, let b := fun k => (s.extConfigBytes c i).getD k 0
          (cs.get i).image = [b 0, b 1, b 2, b 3] := by
  choose w hread himage using fun i => ExtConfig.ofImage_of_ok (h i).1 (h i).2
  refine ⟨tabulate 4 w, ?_, fun i => by rw [get_tabulate]; exact himage i⟩
  have hjudged := (judgeAll_some (fun i => ExtConfig.ofImage (s.extConfigBytes c i)) (tabulate 4 w)).2 fun i => by
    rw [get_tabulate]; exact hread i
  unfold writeExtConfig
  simp only [rewrittenExtConfig_eq, hjudged]

/-- Where one record fails, the whole WRITE does (R155). -/
theorem writeExtConfig_invalid (h : ¬∀ i, ExtBytesOk (s.extConfigBytes c i)) : writeExtConfig c s = .invalid := by
  obtain ⟨i, hi⟩ := not_forall.1 h
  have hnone : ExtConfig.ofImage (s.extConfigBytes c i) = none :=
    Option.eq_none_iff_forall_ne_some.2 fun _ hread => hi (ExtConfig.ok_of_ofImage hread)
  have hjudged := (judgeAll_none fun i => ExtConfig.ofImage (s.extConfigBytes c i)).2 ⟨i, hnone⟩
  unfold writeExtConfig
  simp only [rewrittenExtConfig_eq, hjudged]

theorem serveWrite_extConfig (tag : Byte) (h : c.region = some .extConfig) :
    serveWrite tag c s = writeExtConfig c s := by
  simp only [serveWrite, h]

theorem serveWrite_settings (tag : Byte) (h : c.region = some .settings) :
    serveWrite tag c s = writeSettings tag c s := by
  simp only [serveWrite, h]

/-- Outside the two regions it takes, a WRITE no row names is INVALID (R164). -/
theorem serveWrite_invalid (tag : Byte) (hsettings : c.region ≠ some .settings)
    (hext : c.region ≠ some .extConfig) : serveWrite tag c s = .invalid := by
  unfold serveWrite
  split
  next h => exact (hsettings h).elim
  next h => exact (hext h).elim
  all_goals rfl

end ExtConfigs

@[simp] theorem EventUnit.get_configure (u : EventUnit) (cs : Vector ExtConfig 4) (i : Fin 4) :
    (u.configure cs).inputs.get i = { u.inputs.get i with config := cs.get i } := by
  simp only [EventUnit.configure, get_tabulate]

/-- New external-input records and an entry answered: every other block stays, and no class becomes live. -/
theorem frame_extConfigAnswered (s : State) (cs : Vector ExtConfig 4) (tag : Byte) :
    Frame [.entries, .replyQueue, .events] s
      (announce s ((s.withEvents (s.events.configure cs)).finishEntry tag .ok [])) := by
  rw [announce_live (by simp [EventUnit.configure, EventUnit.live])]
  intro b hb
  cases b <;> simp_all [State.agrees]

/-- Settles O34: the external-input records judged together; every other WRITE without a row is INVALID. -/
theorem writesWithoutARowOfTheirOwn : Obligations.WritesWithoutARowOfTheirOwn := by
  intro s e hserving
  have hexec : exec .mgmtWrite s = .next (announce s (s.conclude e.tag (serveWrite e.tag e.cmd s))) :=
    finishEvent_serve serveWrite hserving
  refine ⟨fun hregion => ?_, fun hsettings hext => ⟨_, hexec, ?_⟩⟩
  · rw [serveWrite_extConfig e.tag hregion] at hexec
    refine ⟨fun hok => ?_, fun hbad => ⟨_, hexec, ?_⟩⟩
    · obtain ⟨cs, hwrite, himage⟩ := writeExtConfig_ok (c := e.cmd) hok
      rw [hwrite] at hexec
      have hevents : (announce s (s.conclude e.tag (.ok (s.withEvents (s.events.configure cs)) []))).events =
          s.events.configure cs := by simp [State.conclude]
      refine ⟨_, hexec, answered_ok s _ e.tag [] rfl rfl, frame_extConfigAnswered s cs e.tag, ?_⟩
      rw [hevents]
      refine ⟨rfl, rfl, fun i => ?_⟩
      rw [EventUnit.get_configure]
      exact ⟨himage i, rfl, rfl⟩
    · rw [writeExtConfig_invalid hbad]
      exact notServed_invalid s e.tag
  · rw [serveWrite_invalid e.tag hsettings hext]
    exact notServed_invalid s e.tag

end Sys2Proof.Machine
end

section
/-! PROOFS. WRITEs of enable and clear characters (R147, R148, R150). -/
namespace Sys2Proof.Machine

/-! ## What a row says of the range it serves -/

theorem range_of_region {c : Command} {r : Region} (h : c.region = some r) :
    r.base ≤ c.location.toNat ∧ c.location.toNat + c.length.toNat ≤ r.base + r.size := by
  have hholds := List.find?_some h
  rw [Bool.and_eq_true, decide_eq_true_eq, decide_eq_true_eq] at hholds
  exact hholds

theorem region_of_writesIn {c : Command} {r : Region} (h : c.writesIn r = true) : c.region = some r := by
  rw [Command.writesIn, Bool.and_eq_true, beq_iff_eq, beq_iff_eq] at h
  exact h.2

theorem region_of_enableWrite {c : Command} (h : serves .enableWrite c = true) : c.region = some .events :=
  region_of_writesIn (Bool.and_eq_true _ _ ▸ h).1

theorem region_of_clearWrite {c : Command} (h : serves .clearWrite c = true) : c.region = some .events :=
  region_of_writesIn (Bool.and_eq_true _ _ ▸ h).1

/-! ## Sets of classes from characters (R16) -/

theorem EventClass.number_lt (k : EventClass) : k.number < 15 := by
  cases k <;> decide

theorem has_eventSetOf (hi lo : Byte) (k : EventClass) : (eventSetOf hi lo).has k = charactersName hi lo k := by
  rw [EventSet.has, eventSetOf, BitVec.getLsbD_setWidth, joinBytes, BitVec.getLsbD_append, decide_eq_true k.number_lt,
    Bool.true_and]
  rfl

theorem has_clear (e cleared : EventSet) (k : EventClass) :
    EventSet.has (e &&& ~~~cleared) k = (e.has k && !cleared.has k) := by
  simp [EventSet.has, k.number_lt]

/-! ## The event unit written (R147, R148, R150) -/

/-- The enable characters as they would stand after a WRITE. -/
def State.enableCharacters (s : State) (c : Command) : List Byte :=
  overlay 0x0022 [eventHigh s.events.enable, eventLow s.events.enable] c.location.toNat c.payload

/-- The clear characters a WRITE gives, 0x00 where it gives none. -/
def Command.clearCharacters (c : Command) : List Byte := overlay 0x0024 [0, 0] c.location.toNat c.payload

/-- The classes a WRITE of the event region enables. -/
def State.enabledBy (s : State) (c : Command) : EventSet :=
  eventSetOf ((s.enableCharacters c).getD 0 0) ((s.enableCharacters c).getD 1 0)

/-- The classes a WRITE of the event region clears. -/
def Command.clears (c : Command) : EventSet := eventSetOf (c.clearCharacters.getD 0 0) (c.clearCharacters.getD 1 0)

/-- The WRITE touches a status character or sets bit 7 of a high character (R147, R148). -/
def State.badEventWrite (s : State) (c : Command) : Prop :=
  c.location.toNat < 0x0022 ∨ ((s.enableCharacters c).getD 0 0).getLsbD 7 = true
    ∨ (c.clearCharacters.getD 0 0).getLsbD 7 = true

section WriteEvents
variable {s : State} {c : Command}

theorem writeEvents_ok (h : ¬s.badEventWrite c) :
    writeEvents c s = .ok (s.withEvents (s.events.write (s.enabledBy c) c.clears)) [] := by
  obtain ⟨hloc, hbits⟩ := not_or.1 h
  have htouches : touches 0x0020 2 c.location.toNat c.payload.length = false := by
    simp only [touches, Bool.and_eq_false_iff, decide_eq_false_iff_not]
    exact .inl hloc
  have hbits' : ¬((((s.enableCharacters c).getD 0 0).getLsbD 7 || (c.clearCharacters.getD 0 0).getLsbD 7) = true) := by
    rw [Bool.or_eq_true]
    exact hbits
  exact (if_neg (by rw [htouches]; exact Bool.false_ne_true)).trans (if_neg hbits')

theorem writeEvents_invalid (hregion : c.region = some .events) (hpayload : c.payload ≠ [])
    (h : s.badEventWrite c) : writeEvents c s = .invalid := by
  have hlen := List.length_pos_iff.2 hpayload
  have hbase : 0x0020 ≤ c.location.toNat := (range_of_region hregion).1
  by_cases htouches : touches 0x0020 2 c.location.toNat c.payload.length = true
  · exact if_pos htouches
  · have hloc : ¬c.location.toNat < 0x0022 := fun hloc => htouches (by
      simp only [touches, Bool.and_eq_true, decide_eq_true_eq]
      omega)
    have hbits := h.resolve_left hloc
    rw [← Bool.or_eq_true] at hbits
    exact (if_neg htouches).trans (if_pos hbits)

end WriteEvents

/-- The inputs keep their configurations and filters; their marks are cleared where EXT_INPUT is named (R150). -/
theorem EventUnit.get_write (u : EventUnit) (enable cleared : EventSet) (i : Fin 4) :
    (u.write enable cleared).inputs.get i =
      { u.inputs.get i with seen := (u.inputs.get i).seen && !cleared.has .extInput } := by
  unfold EventUnit.write
  cases h : cleared.has .extInput <;> simp [get_tabulate]

theorem exec_eventWrite {s : State} {e : Entry} {c : Instr}
    (h : (c = .enableWrite ∧ Serving s .enableWrite e) ∨ (c = .clearWrite ∧ Serving s .clearWrite e)) :
    e.cmd.region = some .events ∧ exec c s = .next (announce s (s.conclude e.tag (writeEvents e.cmd s))) := by
  obtain ⟨rfl, hserving⟩ | ⟨rfl, hserving⟩ := h
  · exact ⟨region_of_enableWrite hserving.2, finishEvent_serve (fun _ => writeEvents) hserving⟩
  · exact ⟨region_of_clearWrite hserving.2, finishEvent_serve (fun _ => writeEvents) hserving⟩

/-- Settles O35: both rows serve the event region by one body, judged on the characters as they would stand. -/
theorem enableAndClearWritesTakeEffectTogether : Obligations.EnableAndClearWritesTakeEffectTogether := by
  intro s e c hrow
  obtain ⟨hregion, hexec⟩ := exec_eventWrite hrow
  refine ⟨fun hgood => ?_, fun hbad hpayload => ⟨_, hexec, ?_⟩⟩
  · rw [writeEvents_ok hgood] at hexec
    refine ⟨_, hexec, answered_ok s _ e.tag [] rfl rfl, uportKept_announce _ _ (by simp [State.conclude]),
      frame_announce _ _ _ (by simp) ?_, ?_⟩
    · intro b hb
      cases b <;> simp_all [State.agrees, State.conclude]
    · have hevents : (announce s (s.conclude e.tag
          (.ok (s.withEvents (s.events.write (s.enabledBy e.cmd) e.cmd.clears)) []))).events =
          s.events.write (s.enabledBy e.cmd) e.cmd.clears := by simp [State.conclude]
      rw [hevents]
      refine ⟨fun k => ⟨has_eventSetOf _ _ k, ?_⟩, fun i => ?_⟩
      · exact (has_clear _ _ k).trans (congrArg (fun b => s.events.status.has k && !b) (has_eventSetOf _ _ k))
      · rw [EventUnit.get_write]
        exact ⟨rfl, rfl, congrArg (fun b => (s.events.inputs.get i).seen && !b) (has_eventSetOf _ _ .extInput)⟩
  · rw [writeEvents_invalid hregion hpayload hbad]
    exact notServed_invalid s e.tag

end Sys2Proof.Machine
end

section
/-! PROOFS. WRITEs in the settings region (R2, R9, R48, R127, R166). -/
namespace Sys2Proof.Machine

/-! ## One field of a region -/

/-- A byte of a field laid over is the byte of its region laid over, where the field stands in the region's image. -/
theorem overlay_slice {base fieldBase offset k loc : Nat} {image field payload : List Byte}
    (hbase : fieldBase = base + offset) (hfield : k < field.length) (himage : offset + k < image.length)
    (hstands : field.getD k 0 = image.getD (offset + k) 0) :
    (overlay fieldBase field loc payload).getD k 0 = (overlay base image loc payload).getD (offset + k) 0 := by
  rw [overlay_getD _ _ _ _ _ hfield, overlay_getD _ _ _ _ _ himage, hbase, Nat.add_assoc, hstands]

section Fields
variable {base loc : Nat} {payload : List Byte}

/-- A one-byte setting is judged on the byte as it would stand. -/
theorem rewrittenByte_eq_some_iff {low high : Nat} {x y : Byte} (hx : low ≤ x.toNat ∧ x.toNat ≤ high) :
    rewritten base [x] (settingByte low high) x loc payload = some y ↔
      let b := (overlay base [x] loc payload).getD 0 0
      y = b ∧ low ≤ b.toNat ∧ b.toNat ≤ high := by
  have hstored : settingByte low high [x] = some x := settingByte_eq_some_iff.2 ⟨rfl, hx⟩
  rw [rewritten_eq _ _ _ _ _ _ hstored, settingByte_eq_some_iff]

/-- A format is judged on its four bytes as they would stand. -/
theorem rewrittenFormat_eq {f : Format} (hf : f.ok = true) :
    rewritten base f.image Format.ofImage f loc payload = Format.ofImage (overlay base f.image loc payload) :=
  rewritten_eq _ _ _ _ _ _ (Format.ofImage_image (f.ok_iff.1 hf))

end Fields

/-! ## The region as a WRITE would leave it (R166) -/

/-- The bytes of the settings region as they would stand after a WRITE. -/
def State.settingsBytes (s : State) (c : Command) : List Byte :=
  overlay 0x0010 s.settingsImage c.location.toNat c.payload

/-- The four bytes of a format in a region are each in its range (R2). -/
def FormatAtOk (b : List Byte) (offset : Nat) : Prop :=
  FormatBytesOk (b.getD offset 0) (b.getD (offset + 1) 0) (b.getD (offset + 2) 0) (b.getD (offset + 3) 0)

/-- The bytes of the settings region are each in its range (R2, R48, R127). -/
def SettingsBytesOk (b : List Byte) : Prop :=
  FormatAtOk b 0 ∧ FormatAtOk b 4 ∧ 4 ≤ (b.getD 8 0).toNat ∧ (b.getD 9 0).toNat ≤ 3 ∧ 1 ≤ (b.getD 10 0).toNat
    ∧ (b.getD 10 0).toNat ≤ 16 ∧ 1 ≤ (b.getD 11 0).toNat

section Settings
variable {s : State} {c : Command} {f : Format} {base offset : Nat}

/-- A format stands at an offset of the settings region, whose first byte is at 0x0010. -/
def FormatStands (s : State) (f : Format) (base offset : Nat) : Prop :=
  base = 0x0010 + offset ∧ offset + 4 ≤ 16 ∧ ∀ k < 4, f.image.getD k 0 = s.settingsImage.getD (offset + k) 0

theorem formatStands_uport (s : State) : FormatStands s s.uport.setting 0x0010 0 :=
  ⟨rfl, by decide, fun k hk => by interval_cases k <;> rfl⟩

theorem formatStands_sport (s : State) : FormatStands s s.sport.setting 0x0014 4 :=
  ⟨rfl, by decide, fun k hk => by interval_cases k <;> rfl⟩

theorem FormatStands.bytes (h : FormatStands s f base offset) {k : Nat} (hk : k < 4) :
    (overlay base f.image c.location.toNat c.payload).getD k 0 = (s.settingsBytes c).getD (offset + k) 0 := by
  obtain ⟨hbase, hroom, hstands⟩ := h
  exact overlay_slice hbase hk (show offset + k < 16 by omega) (hstands k hk)

theorem FormatStands.atOk_iff (h : FormatStands s f base offset) :
    let b := overlay base f.image c.location.toNat c.payload
    FormatBytesOk (b.getD 0 0) (b.getD 1 0) (b.getD 2 0) (b.getD 3 0) ↔ FormatAtOk (s.settingsBytes c) offset := by
  dsimp only
  rw [h.bytes (by decide), h.bytes (by decide), h.bytes (by decide), h.bytes (by decide)]
  exact Iff.rfl

/-- Bytes in range give the format whose image they are. -/
theorem FormatStands.rewritten_of_ok (h : FormatStands s f base offset) (hf : f.ok = true)
    (hok : FormatAtOk (s.settingsBytes c) offset) :
    ∃ g, rewritten base f.image Format.ofImage f c.location.toNat c.payload = some g
      ∧ let b := s.settingsBytes c
        g.image = [b.getD offset 0, b.getD (offset + 1) 0, b.getD (offset + 2) 0, b.getD (offset + 3) 0] := by
  obtain ⟨g, hread, himage⟩ := Format.ofImage_of_ok (h.atOk_iff.2 hok)
  refine ⟨g, (rewrittenFormat_eq hf).trans hread, ?_⟩
  rw [himage, h.bytes (by decide), h.bytes (by decide), h.bytes (by decide), h.bytes (by decide)]
  rfl

/-- A format that reads has its bytes in range. -/
theorem FormatStands.ok_of_rewritten (h : FormatStands s f base offset) (hf : f.ok = true) {g : Format}
    (hread : rewritten base f.image Format.ofImage f c.location.toNat c.payload = some g) :
    FormatAtOk (s.settingsBytes c) offset :=
  h.atOk_iff.1 (Format.bytesOk_of_ofImage ((rewrittenFormat_eq hf).symm.trans hread))

/-- One of the one-byte settings, by its place in the region. -/
theorem rewrittenSetting_eq_some_iff {low high : Nat} {x y : Byte} (hbase : base = 0x0010 + offset)
    (hroom : offset < 16) (hstands : x = s.settingsImage.getD offset 0) (hx : low ≤ x.toNat ∧ x.toNat ≤ high) :
    rewritten base [x] (settingByte low high) x c.location.toNat c.payload = some y ↔
      let b := (s.settingsBytes c).getD offset 0
      y = b ∧ low ≤ b.toNat ∧ b.toNat ≤ high := by
  have hbyte : (overlay base [x] c.location.toNat c.payload).getD 0 0 = (s.settingsBytes c).getD offset 0 :=
    overlay_slice hbase Nat.one_pos hroom hstands
  rw [rewrittenByte_eq_some_iff hx, hbyte]

variable {y : Byte}

theorem rewrittenTimeout_iff (h : SettingsOk s) :
    rewritten 0x0018 [s.sport.answerTimeout] (settingByte 4 255) s.sport.answerTimeout c.location.toNat c.payload =
      some y ↔ let b := (s.settingsBytes c).getD 8 0
        y = b ∧ 4 ≤ b.toNat ∧ b.toNat ≤ 255 := by
  obtain ⟨-, -, -, -, -, htimeout, -⟩ := h
  exact rewrittenSetting_eq_some_iff rfl (by decide) rfl ⟨htimeout, by omega⟩

theorem rewrittenRetry_iff (h : SettingsOk s) :
    rewritten 0x0019 [s.sport.retryCount] (settingByte 0 3) s.sport.retryCount c.location.toNat c.payload =
      some y ↔ let b := (s.settingsBytes c).getD 9 0
        y = b ∧ 0 ≤ b.toNat ∧ b.toNat ≤ 3 := by
  obtain ⟨-, -, -, -, -, -, hretry, -⟩ := h
  exact rewrittenSetting_eq_some_iff rfl (by decide) rfl ⟨Nat.zero_le _, hretry⟩

theorem rewrittenGap_iff (h : SettingsOk s) :
    rewritten 0x001A [s.sport.defaultGap] (settingByte 1 16) s.sport.defaultGap c.location.toNat c.payload =
      some y ↔ let b := (s.settingsBytes c).getD 10 0
        y = b ∧ 1 ≤ b.toNat ∧ b.toNat ≤ 16 := by
  obtain ⟨-, -, -, -, -, -, -, hlow, hhigh, -⟩ := h
  exact rewrittenSetting_eq_some_iff rfl (by decide) rfl ⟨hlow, hhigh⟩

theorem rewrittenPark_iff (h : SettingsOk s) :
    rewritten 0x001B [s.parkLimit] (settingByte 1 255) s.parkLimit c.location.toNat c.payload =
      some y ↔ let b := (s.settingsBytes c).getD 11 0
        y = b ∧ 1 ≤ b.toNat ∧ b.toNat ≤ 255 := by
  obtain ⟨-, -, -, -, -, -, -, -, -, hpark, -⟩ := h
  exact rewrittenSetting_eq_some_iff rfl (by decide) rfl ⟨hpark, by omega⟩

/-! ## The WRITE (R9, R166) -/

/-- The state after an accepted WRITE of settings: two formats, and four bytes as they stand in `b`; a U-port format
that is touched waits for the reply to this entry (R9). -/
def State.settingsWritten (s : State) (tag : Byte) (touched : Bool) (u p : Format) (b : List Byte) : State :=
  ((s.withUport { s.uport with
      setting := u
      pendingFormat := if touched then some { format := u, tag := tag } else s.uport.pendingFormat }).withSport
    { s.sport with
      setting := p, answerTimeout := b.getD 8 0, retryCount := b.getD 9 0, defaultGap := b.getD 10 0 }).withParkLimit
    (b.getD 11 0)

/-- Where every field is in its range, all of them take their bytes (R166). -/
theorem writeSettings_ok (tag : Byte) (h : SettingsOk s) (hok : SettingsBytesOk (s.settingsBytes c)) :
    ∃ u p, writeSettings tag c s =
        .ok (s.settingsWritten tag (touches 0x0010 4 c.location.toNat c.payload.length) u p (s.settingsBytes c)) []
      ∧ let b := fun k => (s.settingsBytes c).getD k 0
        u.image = [b 0, b 1, b 2, b 3] ∧ p.image = [b 4, b 5, b 6, b 7] := by
  obtain ⟨huport, hsport, htimeout, hretry, hgap, hgap', hpark⟩ := hok
  obtain ⟨u, hu, huImage⟩ := (formatStands_uport s).rewritten_of_ok h.1 huport
  obtain ⟨p, hp, hpImage⟩ := (formatStands_sport s).rewritten_of_ok h.2.2.2.1 hsport
  refine ⟨u, p, ?_, huImage, hpImage⟩
  unfold writeSettings
  simp only [hu, hp, (rewrittenTimeout_iff h).2 ⟨rfl, htimeout, by omega⟩,
    (rewrittenRetry_iff h).2 ⟨rfl, Nat.zero_le _, hretry⟩, (rewrittenGap_iff h).2 ⟨rfl, hgap, hgap'⟩,
    (rewrittenPark_iff h).2 ⟨rfl, hpark, by omega⟩]
  rfl

/-- Where one field is out of its range, the whole WRITE fails (R166). -/
theorem writeSettings_invalid (tag : Byte) (h : SettingsOk s) (hbad : ¬SettingsBytesOk (s.settingsBytes c)) :
    writeSettings tag c s = .invalid := by
  unfold writeSettings
  dsimp only
  split
  next u p timeout retry gap park hu hp htimeout hretry hgap hpark =>
    obtain ⟨-, htimeout, -⟩ := (rewrittenTimeout_iff h).1 htimeout
    obtain ⟨-, -, hretry⟩ := (rewrittenRetry_iff h).1 hretry
    obtain ⟨-, hgap, hgap'⟩ := (rewrittenGap_iff h).1 hgap
    obtain ⟨-, hpark, -⟩ := (rewrittenPark_iff h).1 hpark
    exact (hbad ⟨(formatStands_uport s).ok_of_rewritten h.1 hu, (formatStands_sport s).ok_of_rewritten h.2.2.2.1 hp,
      htimeout, hretry, hgap, hgap', hpark⟩).elim
  next => rfl

end Settings

/-- A WRITE in the settings region touches the U-port format exactly where it begins in it: an empty one at 0x0010
lies in the identity block. -/
theorem touches_uportFormat {c : Command} (hregion : c.region = some .settings)
    (hlen : c.payload.length = c.length.toNat) :
    touches 0x0010 4 c.location.toNat c.payload.length = decide (c.location.toNat ≤ 0x0013) := by
  have hbase : 0x0010 ≤ c.location.toNat := (range_of_region hregion).1
  have hnotEmpty : ¬(c.location.toNat = 0x0010 ∧ c.length.toNat = 0) := fun ⟨hloc, hzero⟩ => by
    rw [Command.region, hloc, hzero] at hregion
    exact absurd hregion (by decide)
  rw [Bool.eq_iff_iff]
  simp only [touches, hlen, Bool.and_eq_true, decide_eq_true_eq]
  omega

/-- The three rows that serve a WRITE in the settings region have one body (R166). -/
theorem exec_settingsWrite {s : State} {e : Entry} {c : Instr} (hregion : e.cmd.region = some .settings)
    (h : (c = .mgmtWrite ∧ Serving s .mgmtWrite e) ∨ (c = .uportFormatWrite ∧ Serving s .uportFormatWrite e)
      ∨ (c = .sportFormatWrite ∧ Serving s .sportFormatWrite e)) :
    exec c s = .next (announce s (s.conclude e.tag (writeSettings e.tag e.cmd s))) := by
  obtain ⟨rfl, hserving⟩ | ⟨rfl, hserving⟩ | ⟨rfl, hserving⟩ := h
  · rw [← serveWrite_settings e.tag hregion]
    exact finishEvent_serve serveWrite hserving
  · exact finishEvent_serve writeSettings hserving
  · exact finishEvent_serve writeSettings hserving

/-- New settings and an entry answered: every other block stays, and no class is set. -/
theorem announce_settingsWritten (s : State) (tag : Byte) (touched : Bool) (u p : Format) (b : List Byte) :
    announce s ((s.settingsWritten tag touched u p b).finishEntry tag .ok []) =
      (s.settingsWritten tag touched u p b).finishEntry tag .ok [] :=
  announce_same _ _ (by simp [State.settingsWritten])

theorem settingsImage_settingsWritten (s : State) (tag : Byte) (touched : Bool) (u p : Format) (b : List Byte) :
    ((s.settingsWritten tag touched u p b).finishEntry tag .ok []).settingsImage =
      u.image ++ p.image ++ [b.getD 8 0, b.getD 9 0, b.getD 10 0, b.getD 11 0, 0, 0, 0, 0] := by
  simp only [State.settingsImage, State.finishEntry_frame]
  rfl

/-- Settles O33: the three rows by their one body, whose fields are judged on the region as it would stand. -/
theorem settingsWritesAreJudgedWhole : Obligations.SettingsWritesAreJudgedWhole := by
  intro s e c hsettings hregion hlen hrow
  have hexec := exec_settingsWrite hregion hrow
  refine ⟨fun hok => ?_, fun hbad => ⟨_, hexec, ?_⟩⟩
  · obtain ⟨u, p, hwrite, hu, hp⟩ := writeSettings_ok e.tag hsettings (c := e.cmd) hok
    rw [hwrite, touches_uportFormat hregion hlen] at hexec
    refine ⟨_, hexec, answered_ok s _ e.tag [] rfl rfl, ?_⟩
    rw [State.conclude, announce_settingsWritten]
    refine ⟨?_, ?_, ?_, ?_⟩
    · intro b hb
      cases b <;> simp_all [State.agrees, State.settingsWritten]
    · rw [settingsImage_settingsWritten, hu, hp]
      rfl
    · simp [State.settingsWritten]
    · simp [State.settingsWritten]; exact ⟨rfl, rfl, rfl⟩
  · rw [writeSettings_invalid e.tag hsettings hbad]
    exact notServed_invalid s e.tag

end Sys2Proof.Machine
end
